-- ==== Sys2Proof/Word.lean ====
section
/-! DEFINITION. The word types of the core and the two colours (00_scope.md R11, R13, R14; 10_state.md R27). -/

namespace Sys2Proof

/-- One byte of `SRC` or of `OUT` (20_memory.md R60). -/
abbrev Byte := BitVec 8

/-- The 32-bit accumulator of the Bit Window; bit 31 is the next bit to be consumed (R11, R21). -/
abbrev Acc := BitVec 32

/-- A pixel's colour inside the core (R14). -/
inductive Colour where
  | white
  | black
deriving DecidableEq, Repr

/-- `opp(c)`, the other colour (R14). -/
def Colour.opp : Colour → Colour
  | .white => .black
  | .black => .white

/-- The one-bit internal encoding, WHITE = 0 and BLACK = 1 (R27, decision D29); no output shows it. -/
def Colour.bit : Colour → BitVec 1
  | .white => 0
  | .black => 1

@[simp] theorem Colour.opp_white : Colour.white.opp = .black := rfl
@[simp] theorem Colour.opp_black : Colour.black.opp = .white := rfl
@[simp] theorem Colour.opp_opp (c : Colour) : c.opp.opp = c := by cases c <;> rfl
@[simp] theorem Colour.opp_ne (c : Colour) : c.opp ≠ c := by cases c <;> simp

theorem Colour.eq_opp_of_ne {c d : Colour} (h : c ≠ d) : c = d.opp := by
  cases c <;> cases d <;> simp_all

end Sys2Proof
end

