-- ==== Sys2Proof/Config.lean ====
section
/-! DEFINITION. The implementation parameters of 00_scope.md R9. They are fixed for a build of the block; the ones the
spec leaves OPEN are an argument of the model, so the machine's state carries the whole record and no rule writes it. -/

namespace Sys2Proof

/-- `P_H_COLOR` (R9, R186, decision D5): what HORIZONTAL does to the current colour. -/
inductive HColor where
  | keep
  | flip
deriving DecidableEq, Repr

/-- The configuration parameters of R9. `none` in a bound means that the build has no such bound. -/
structure Config where
  /-- `P_MAX_WIDTH`, OPEN (D18) -/
  maxWidth : Option Nat
  /-- `P_MAX_SRC`, OPEN (D31) -/
  maxSrc : Option Nat
  /-- `P_MAX_LINES`, OPEN (D17) -/
  maxLines : Option Nat
  /-- `P_PIXEL_WHITE` (D7) -/
  pixelWhite : Byte
  /-- `P_PIXEL_BLACK` (D7) -/
  pixelBlack : Byte
  /-- `P_H_COLOR` (D5) -/
  hColor : HColor
  /-- `P_EXT_MAKEUP_INDEX_OFFSET`, 0 or 1 (D4) -/
  extOffset : Fin 2
deriving DecidableEq, Repr

/-- The values the spec takes (R9), and the three OPEN bounds unbounded, as 95_test_vectors.md runs its vectors.
DESIGN CHOICE (log entry 1): only `State.reset` uses this record. -/
def Config.standard : Config :=
  { maxWidth := none, maxSrc := none, maxLines := none,
    pixelWhite := 0xFF, pixelBlack := 0x00, hColor := .keep, extOffset := 0 }

/-- A value is within a bound; an absent bound bounds nothing. -/
def withinBound (n : Nat) : Option Nat → Bool
  | none => true
  | some m => decide (n ≤ m)

/-- The ranges R9 gives the parameters. -/
abbrev Config.wf (c : Config) : Prop :=
  c.maxWidth ≠ some 0 ∧ c.maxLines ≠ some 0 ∧ c.pixelBlack ≠ c.pixelWhite

/-- The standard build is inside the ranges of R9. -/
theorem Config.standard_wf : Config.standard.wf := by decide

end Sys2Proof
end

