-- ==== Sys2Proof/Syntax.lean ====
section
/-! DEFINITION. The instructions of the core are the prefix codes of the compressed stream (30_encoding.md, first
paragraph): one constructor for every row of spec/opcode_table.json (R103: 10 + 182 + 13 + 1 = 206). No code has an
operand of its own: the operands of HORIZONTAL are the run codes that follow it in the stream (R94). -/

namespace Sys2Proof

/-- The codes of the stream. The mnemonics are those of R100. -/
inductive Instr where
  -- the ten mode codes (42_mode_codes.md R150, R151)
  | v0 | vr1 | vl1 | h | p | vr2 | vl2 | vr3 | vl3 | ext
  -- white terminating codes (41_run_length_codes.md R133)
  | wt0 | wt1 | wt2 | wt3 | wt4 | wt5 | wt6 | wt7 | wt8 | wt9 | wt10 | wt11 | wt12 | wt13 | wt14 | wt15 | wt16 |
    wt17 | wt18 | wt19 | wt20 | wt21 | wt22 | wt23 | wt24 | wt25 | wt26 | wt27 | wt28 | wt29 | wt30 | wt31 |
    wt32 | wt33 | wt34 | wt35 | wt36 | wt37 | wt38 | wt39 | wt40 | wt41 | wt42 | wt43 | wt44 | wt45 | wt46 |
    wt47 | wt48 | wt49 | wt50 | wt51 | wt52 | wt53 | wt54 | wt55 | wt56 | wt57 | wt58 | wt59 | wt60 | wt61 |
    wt62 | wt63
  -- white make-up codes (R134)
  | wm64 | wm128 | wm192 | wm256 | wm320 | wm384 | wm448 | wm512 | wm576 | wm640 | wm704 | wm768 | wm832 |
    wm896 | wm960 | wm1024 | wm1088 | wm1152 | wm1216 | wm1280 | wm1344 | wm1408 | wm1472 | wm1536 | wm1600 |
    wm1664 | wm1728
  -- black terminating codes (R135)
  | bt0 | bt1 | bt2 | bt3 | bt4 | bt5 | bt6 | bt7 | bt8 | bt9 | bt10 | bt11 | bt12 | bt13 | bt14 | bt15 | bt16 |
    bt17 | bt18 | bt19 | bt20 | bt21 | bt22 | bt23 | bt24 | bt25 | bt26 | bt27 | bt28 | bt29 | bt30 | bt31 |
    bt32 | bt33 | bt34 | bt35 | bt36 | bt37 | bt38 | bt39 | bt40 | bt41 | bt42 | bt43 | bt44 | bt45 | bt46 |
    bt47 | bt48 | bt49 | bt50 | bt51 | bt52 | bt53 | bt54 | bt55 | bt56 | bt57 | bt58 | bt59 | bt60 | bt61 |
    bt62 | bt63
  -- black make-up codes (R136)
  | bm64 | bm128 | bm192 | bm256 | bm320 | bm384 | bm448 | bm512 | bm576 | bm640 | bm704 | bm768 | bm832 |
    bm896 | bm960 | bm1024 | bm1088 | bm1152 | bm1216 | bm1280 | bm1344 | bm1408 | bm1472 | bm1536 | bm1600 |
    bm1664 | bm1728
  -- extended make-up codes, shared by both colours (R137)
  | xm1792 | xm1856 | xm1920 | xm1984 | xm2048 | xm2112 | xm2176 | xm2240 | xm2304 | xm2368 | xm2432 | xm2496 |
    xm2560
  -- the end-of-block pattern (30_encoding.md R88)
  | eob
deriving DecidableEq, Repr

end Sys2Proof
end

