-- ==== Sys2Proof/Decode.lean ====
section
/-! DEFINITION. The prefix codes: their bit strings and payloads, the two table lookups and the end-of-block pattern
(30_encoding.md, 41_run_length_codes.md, 42_mode_codes.md), the decoder built from them, and the encoder. -/

namespace Sys2Proof

/-- A prefix code: `len` bits, the string read as a number with its first bit most significant (R12, R82). -/
structure Code where
  len : Nat
  bits : Nat
deriving DecidableEq, Repr

/-- The mask of R82 in a comparison window of `k` bits: `len` ones at the high-order end. -/
def Code.mask (k : Nat) (c : Code) : BitVec k := BitVec.ofNat k ((2 ^ c.len - 1) <<< (k - c.len))

/-- The expected masked value of R82, left-aligned and padded with zeros. -/
def Code.value (k : Nat) (c : Code) : BitVec k := BitVec.ofNat k (c.bits <<< (k - c.len))

/-- An entry matches a window when `(w & mask) = value` (R86). -/
def Code.matchesIn (k : Nat) (c : Code) (w : BitVec k) : Bool := w &&& c.mask k == c.value k

/-- The code string as bits, the first-consumed bit first (R12). -/
def Code.toBits (c : Code) : List Bool := (List.range c.len).map fun j => c.bits.testBit (c.len - 1 - j)

/-- The code string of every instruction (R151, R133 to R137, R88), and so the encoder's table. -/
def Instr.code : Instr → Code
  -- mode codes, R151
  | .v0 => ⟨1, 0b1⟩
  | .vr1 => ⟨3, 0b011⟩
  | .vl1 => ⟨3, 0b010⟩
  | .h => ⟨3, 0b001⟩
  | .p => ⟨4, 0b0001⟩
  | .vr2 => ⟨6, 0b000011⟩
  | .vl2 => ⟨6, 0b000010⟩
  | .vr3 => ⟨7, 0b0000011⟩
  | .vl3 => ⟨7, 0b0000010⟩
  | .ext => ⟨7, 0b0000001⟩
  -- white terminating codes, R133
  | .wt0 => ⟨8, 0b00110101⟩
  | .wt1 => ⟨6, 0b000111⟩
  | .wt2 => ⟨4, 0b0111⟩
  | .wt3 => ⟨4, 0b1000⟩
  | .wt4 => ⟨4, 0b1011⟩
  | .wt5 => ⟨4, 0b1100⟩
  | .wt6 => ⟨4, 0b1110⟩
  | .wt7 => ⟨4, 0b1111⟩
  | .wt8 => ⟨5, 0b10011⟩
  | .wt9 => ⟨5, 0b10100⟩
  | .wt10 => ⟨5, 0b00111⟩
  | .wt11 => ⟨5, 0b01000⟩
  | .wt12 => ⟨6, 0b001000⟩
  | .wt13 => ⟨6, 0b000011⟩
  | .wt14 => ⟨6, 0b110100⟩
  | .wt15 => ⟨6, 0b110101⟩
  | .wt16 => ⟨6, 0b101010⟩
  | .wt17 => ⟨6, 0b101011⟩
  | .wt18 => ⟨7, 0b0100111⟩
  | .wt19 => ⟨7, 0b0001100⟩
  | .wt20 => ⟨7, 0b0001000⟩
  | .wt21 => ⟨7, 0b0010111⟩
  | .wt22 => ⟨7, 0b0000011⟩
  | .wt23 => ⟨7, 0b0000100⟩
  | .wt24 => ⟨7, 0b0101000⟩
  | .wt25 => ⟨7, 0b0101011⟩
  | .wt26 => ⟨7, 0b0010011⟩
  | .wt27 => ⟨7, 0b0100100⟩
  | .wt28 => ⟨7, 0b0011000⟩
  | .wt29 => ⟨8, 0b00000010⟩
  | .wt30 => ⟨8, 0b00000011⟩
  | .wt31 => ⟨8, 0b00011010⟩
  | .wt32 => ⟨8, 0b00011011⟩
  | .wt33 => ⟨8, 0b00010010⟩
  | .wt34 => ⟨8, 0b00010011⟩
  | .wt35 => ⟨8, 0b00010100⟩
  | .wt36 => ⟨8, 0b00010101⟩
  | .wt37 => ⟨8, 0b00010110⟩
  | .wt38 => ⟨8, 0b00010111⟩
  | .wt39 => ⟨8, 0b00101000⟩
  | .wt40 => ⟨8, 0b00101001⟩
  | .wt41 => ⟨8, 0b00101010⟩
  | .wt42 => ⟨8, 0b00101011⟩
  | .wt43 => ⟨8, 0b00101100⟩
  | .wt44 => ⟨8, 0b00101101⟩
  | .wt45 => ⟨8, 0b00000100⟩
  | .wt46 => ⟨8, 0b00000101⟩
  | .wt47 => ⟨8, 0b00001010⟩
  | .wt48 => ⟨8, 0b00001011⟩
  | .wt49 => ⟨8, 0b01010010⟩
  | .wt50 => ⟨8, 0b01010011⟩
  | .wt51 => ⟨8, 0b01010100⟩
  | .wt52 => ⟨8, 0b01010101⟩
  | .wt53 => ⟨8, 0b00100100⟩
  | .wt54 => ⟨8, 0b00100101⟩
  | .wt55 => ⟨8, 0b01011000⟩
  | .wt56 => ⟨8, 0b01011001⟩
  | .wt57 => ⟨8, 0b01011010⟩
  | .wt58 => ⟨8, 0b01011011⟩
  | .wt59 => ⟨8, 0b01001010⟩
  | .wt60 => ⟨8, 0b01001011⟩
  | .wt61 => ⟨8, 0b00110010⟩
  | .wt62 => ⟨8, 0b00110011⟩
  | .wt63 => ⟨8, 0b00110100⟩
  -- white make-up codes, R134
  | .wm64 => ⟨5, 0b11011⟩
  | .wm128 => ⟨5, 0b10010⟩
  | .wm192 => ⟨6, 0b010111⟩
  | .wm256 => ⟨7, 0b0110111⟩
  | .wm320 => ⟨8, 0b00110110⟩
  | .wm384 => ⟨8, 0b00110111⟩
  | .wm448 => ⟨8, 0b01100100⟩
  | .wm512 => ⟨8, 0b01100101⟩
  | .wm576 => ⟨8, 0b01101000⟩
  | .wm640 => ⟨8, 0b01100111⟩
  | .wm704 => ⟨9, 0b011001100⟩
  | .wm768 => ⟨9, 0b011001101⟩
  | .wm832 => ⟨9, 0b011010010⟩
  | .wm896 => ⟨9, 0b011010011⟩
  | .wm960 => ⟨9, 0b011010100⟩
  | .wm1024 => ⟨9, 0b011010101⟩
  | .wm1088 => ⟨9, 0b011010110⟩
  | .wm1152 => ⟨9, 0b011010111⟩
  | .wm1216 => ⟨9, 0b011011000⟩
  | .wm1280 => ⟨9, 0b011011001⟩
  | .wm1344 => ⟨9, 0b011011010⟩
  | .wm1408 => ⟨9, 0b011011011⟩
  | .wm1472 => ⟨9, 0b010011000⟩
  | .wm1536 => ⟨9, 0b010011001⟩
  | .wm1600 => ⟨9, 0b010011010⟩
  | .wm1664 => ⟨6, 0b011000⟩
  | .wm1728 => ⟨9, 0b010011011⟩
  -- black terminating codes, R135
  | .bt0 => ⟨10, 0b0000110111⟩
  | .bt1 => ⟨3, 0b010⟩
  | .bt2 => ⟨2, 0b11⟩
  | .bt3 => ⟨2, 0b10⟩
  | .bt4 => ⟨3, 0b011⟩
  | .bt5 => ⟨4, 0b0011⟩
  | .bt6 => ⟨4, 0b0010⟩
  | .bt7 => ⟨5, 0b00011⟩
  | .bt8 => ⟨6, 0b000101⟩
  | .bt9 => ⟨6, 0b000100⟩
  | .bt10 => ⟨7, 0b0000100⟩
  | .bt11 => ⟨7, 0b0000101⟩
  | .bt12 => ⟨7, 0b0000111⟩
  | .bt13 => ⟨8, 0b00000100⟩
  | .bt14 => ⟨8, 0b00000111⟩
  | .bt15 => ⟨9, 0b000011000⟩
  | .bt16 => ⟨10, 0b0000010111⟩
  | .bt17 => ⟨10, 0b0000011000⟩
  | .bt18 => ⟨10, 0b0000001000⟩
  | .bt19 => ⟨11, 0b00001100111⟩
  | .bt20 => ⟨11, 0b00001101000⟩
  | .bt21 => ⟨11, 0b00001101100⟩
  | .bt22 => ⟨11, 0b00000110111⟩
  | .bt23 => ⟨11, 0b00000101000⟩
  | .bt24 => ⟨11, 0b00000010111⟩
  | .bt25 => ⟨11, 0b00000011000⟩
  | .bt26 => ⟨12, 0b000011001010⟩
  | .bt27 => ⟨12, 0b000011001011⟩
  | .bt28 => ⟨12, 0b000011001100⟩
  | .bt29 => ⟨12, 0b000011001101⟩
  | .bt30 => ⟨12, 0b000001101000⟩
  | .bt31 => ⟨12, 0b000001101001⟩
  | .bt32 => ⟨12, 0b000001101010⟩
  | .bt33 => ⟨12, 0b000001101011⟩
  | .bt34 => ⟨12, 0b000011010010⟩
  | .bt35 => ⟨12, 0b000011010011⟩
  | .bt36 => ⟨12, 0b000011010100⟩
  | .bt37 => ⟨12, 0b000011010101⟩
  | .bt38 => ⟨12, 0b000011010110⟩
  | .bt39 => ⟨12, 0b000011010111⟩
  | .bt40 => ⟨12, 0b000001101100⟩
  | .bt41 => ⟨12, 0b000001101101⟩
  | .bt42 => ⟨12, 0b000011011010⟩
  | .bt43 => ⟨12, 0b000011011011⟩
  | .bt44 => ⟨12, 0b000001010100⟩
  | .bt45 => ⟨12, 0b000001010101⟩
  | .bt46 => ⟨12, 0b000001010110⟩
  | .bt47 => ⟨12, 0b000001010111⟩
  | .bt48 => ⟨12, 0b000001100100⟩
  | .bt49 => ⟨12, 0b000001100101⟩
  | .bt50 => ⟨12, 0b000001010010⟩
  | .bt51 => ⟨12, 0b000001010011⟩
  | .bt52 => ⟨12, 0b000000100100⟩
  | .bt53 => ⟨12, 0b000000110111⟩
  | .bt54 => ⟨12, 0b000000111000⟩
  | .bt55 => ⟨12, 0b000000100111⟩
  | .bt56 => ⟨12, 0b000000101000⟩
  | .bt57 => ⟨12, 0b000001011000⟩
  | .bt58 => ⟨12, 0b000001011001⟩
  | .bt59 => ⟨12, 0b000000101011⟩
  | .bt60 => ⟨12, 0b000000101100⟩
  | .bt61 => ⟨12, 0b000001011010⟩
  | .bt62 => ⟨12, 0b000001100110⟩
  | .bt63 => ⟨12, 0b000001100111⟩
  -- black make-up codes, R136
  | .bm64 => ⟨10, 0b0000001111⟩
  | .bm128 => ⟨12, 0b000011001000⟩
  | .bm192 => ⟨12, 0b000011001001⟩
  | .bm256 => ⟨12, 0b000001011011⟩
  | .bm320 => ⟨12, 0b000000110011⟩
  | .bm384 => ⟨12, 0b000000110100⟩
  | .bm448 => ⟨12, 0b000000110101⟩
  | .bm512 => ⟨13, 0b0000001101100⟩
  | .bm576 => ⟨13, 0b0000001101101⟩
  | .bm640 => ⟨13, 0b0000001001010⟩
  | .bm704 => ⟨13, 0b0000001001011⟩
  | .bm768 => ⟨13, 0b0000001001100⟩
  | .bm832 => ⟨13, 0b0000001001101⟩
  | .bm896 => ⟨13, 0b0000001110010⟩
  | .bm960 => ⟨13, 0b0000001110011⟩
  | .bm1024 => ⟨13, 0b0000001110100⟩
  | .bm1088 => ⟨13, 0b0000001110101⟩
  | .bm1152 => ⟨13, 0b0000001110110⟩
  | .bm1216 => ⟨13, 0b0000001110111⟩
  | .bm1280 => ⟨13, 0b0000001010010⟩
  | .bm1344 => ⟨13, 0b0000001010011⟩
  | .bm1408 => ⟨13, 0b0000001010100⟩
  | .bm1472 => ⟨13, 0b0000001010101⟩
  | .bm1536 => ⟨13, 0b0000001011010⟩
  | .bm1600 => ⟨13, 0b0000001011011⟩
  | .bm1664 => ⟨13, 0b0000001100100⟩
  | .bm1728 => ⟨13, 0b0000001100101⟩
  -- extended make-up codes, R137
  | .xm1792 => ⟨11, 0b00000001000⟩
  | .xm1856 => ⟨11, 0b00000001100⟩
  | .xm1920 => ⟨11, 0b00000001101⟩
  | .xm1984 => ⟨12, 0b000000010010⟩
  | .xm2048 => ⟨12, 0b000000010011⟩
  | .xm2112 => ⟨12, 0b000000010100⟩
  | .xm2176 => ⟨12, 0b000000010101⟩
  | .xm2240 => ⟨12, 0b000000010110⟩
  | .xm2304 => ⟨12, 0b000000010111⟩
  | .xm2368 => ⟨12, 0b000000011100⟩
  | .xm2432 => ⟨12, 0b000000011101⟩
  | .xm2496 => ⟨12, 0b000000011110⟩
  | .xm2560 => ⟨12, 0b000000011111⟩
  -- end of block, R88
  | .eob => ⟨24, 0b000000000001000000000001⟩

/-- The mode tags of R84; the sentinel's tag NONE is the lookup's answer `none`. -/
inductive ModeTag where
  | pass
  | horizontal
  | vertical (offset : Int)
  | ext
deriving DecidableEq, Repr

/-- The three sorts of run code (R131, R132). -/
inductive RunKind where
  | terminating
  | makeUp
  | extended
deriving DecidableEq, Repr

/-- What an entry carries beside its code (R83, R84). A run entry carries its colour tag (`none` is "either"), its sort
and its index in its table. -/
inductive Payload where
  | mode (tag : ModeTag)
  | run (colour : Option Colour) (kind : RunKind) (index : Nat)
  | endOfBlock
deriving DecidableEq, Repr

/-- What each code carries (R83, R84, R131, R132, R156). -/
def Instr.payload : Instr → Payload
  | .v0 => .mode (.vertical (0))
  | .vr1 => .mode (.vertical (1))
  | .vl1 => .mode (.vertical (-1))
  | .h => .mode .horizontal
  | .p => .mode .pass
  | .vr2 => .mode (.vertical (2))
  | .vl2 => .mode (.vertical (-2))
  | .vr3 => .mode (.vertical (3))
  | .vl3 => .mode (.vertical (-3))
  | .ext => .mode .ext
  | .wt0 => .run (some .white) .terminating 0
  | .wt1 => .run (some .white) .terminating 1
  | .wt2 => .run (some .white) .terminating 2
  | .wt3 => .run (some .white) .terminating 3
  | .wt4 => .run (some .white) .terminating 4
  | .wt5 => .run (some .white) .terminating 5
  | .wt6 => .run (some .white) .terminating 6
  | .wt7 => .run (some .white) .terminating 7
  | .wt8 => .run (some .white) .terminating 8
  | .wt9 => .run (some .white) .terminating 9
  | .wt10 => .run (some .white) .terminating 10
  | .wt11 => .run (some .white) .terminating 11
  | .wt12 => .run (some .white) .terminating 12
  | .wt13 => .run (some .white) .terminating 13
  | .wt14 => .run (some .white) .terminating 14
  | .wt15 => .run (some .white) .terminating 15
  | .wt16 => .run (some .white) .terminating 16
  | .wt17 => .run (some .white) .terminating 17
  | .wt18 => .run (some .white) .terminating 18
  | .wt19 => .run (some .white) .terminating 19
  | .wt20 => .run (some .white) .terminating 20
  | .wt21 => .run (some .white) .terminating 21
  | .wt22 => .run (some .white) .terminating 22
  | .wt23 => .run (some .white) .terminating 23
  | .wt24 => .run (some .white) .terminating 24
  | .wt25 => .run (some .white) .terminating 25
  | .wt26 => .run (some .white) .terminating 26
  | .wt27 => .run (some .white) .terminating 27
  | .wt28 => .run (some .white) .terminating 28
  | .wt29 => .run (some .white) .terminating 29
  | .wt30 => .run (some .white) .terminating 30
  | .wt31 => .run (some .white) .terminating 31
  | .wt32 => .run (some .white) .terminating 32
  | .wt33 => .run (some .white) .terminating 33
  | .wt34 => .run (some .white) .terminating 34
  | .wt35 => .run (some .white) .terminating 35
  | .wt36 => .run (some .white) .terminating 36
  | .wt37 => .run (some .white) .terminating 37
  | .wt38 => .run (some .white) .terminating 38
  | .wt39 => .run (some .white) .terminating 39
  | .wt40 => .run (some .white) .terminating 40
  | .wt41 => .run (some .white) .terminating 41
  | .wt42 => .run (some .white) .terminating 42
  | .wt43 => .run (some .white) .terminating 43
  | .wt44 => .run (some .white) .terminating 44
  | .wt45 => .run (some .white) .terminating 45
  | .wt46 => .run (some .white) .terminating 46
  | .wt47 => .run (some .white) .terminating 47
  | .wt48 => .run (some .white) .terminating 48
  | .wt49 => .run (some .white) .terminating 49
  | .wt50 => .run (some .white) .terminating 50
  | .wt51 => .run (some .white) .terminating 51
  | .wt52 => .run (some .white) .terminating 52
  | .wt53 => .run (some .white) .terminating 53
  | .wt54 => .run (some .white) .terminating 54
  | .wt55 => .run (some .white) .terminating 55
  | .wt56 => .run (some .white) .terminating 56
  | .wt57 => .run (some .white) .terminating 57
  | .wt58 => .run (some .white) .terminating 58
  | .wt59 => .run (some .white) .terminating 59
  | .wt60 => .run (some .white) .terminating 60
  | .wt61 => .run (some .white) .terminating 61
  | .wt62 => .run (some .white) .terminating 62
  | .wt63 => .run (some .white) .terminating 63
  | .wm64 => .run (some .white) .makeUp 0
  | .wm128 => .run (some .white) .makeUp 1
  | .wm192 => .run (some .white) .makeUp 2
  | .wm256 => .run (some .white) .makeUp 3
  | .wm320 => .run (some .white) .makeUp 4
  | .wm384 => .run (some .white) .makeUp 5
  | .wm448 => .run (some .white) .makeUp 6
  | .wm512 => .run (some .white) .makeUp 7
  | .wm576 => .run (some .white) .makeUp 8
  | .wm640 => .run (some .white) .makeUp 9
  | .wm704 => .run (some .white) .makeUp 10
  | .wm768 => .run (some .white) .makeUp 11
  | .wm832 => .run (some .white) .makeUp 12
  | .wm896 => .run (some .white) .makeUp 13
  | .wm960 => .run (some .white) .makeUp 14
  | .wm1024 => .run (some .white) .makeUp 15
  | .wm1088 => .run (some .white) .makeUp 16
  | .wm1152 => .run (some .white) .makeUp 17
  | .wm1216 => .run (some .white) .makeUp 18
  | .wm1280 => .run (some .white) .makeUp 19
  | .wm1344 => .run (some .white) .makeUp 20
  | .wm1408 => .run (some .white) .makeUp 21
  | .wm1472 => .run (some .white) .makeUp 22
  | .wm1536 => .run (some .white) .makeUp 23
  | .wm1600 => .run (some .white) .makeUp 24
  | .wm1664 => .run (some .white) .makeUp 25
  | .wm1728 => .run (some .white) .makeUp 26
  | .bt0 => .run (some .black) .terminating 0
  | .bt1 => .run (some .black) .terminating 1
  | .bt2 => .run (some .black) .terminating 2
  | .bt3 => .run (some .black) .terminating 3
  | .bt4 => .run (some .black) .terminating 4
  | .bt5 => .run (some .black) .terminating 5
  | .bt6 => .run (some .black) .terminating 6
  | .bt7 => .run (some .black) .terminating 7
  | .bt8 => .run (some .black) .terminating 8
  | .bt9 => .run (some .black) .terminating 9
  | .bt10 => .run (some .black) .terminating 10
  | .bt11 => .run (some .black) .terminating 11
  | .bt12 => .run (some .black) .terminating 12
  | .bt13 => .run (some .black) .terminating 13
  | .bt14 => .run (some .black) .terminating 14
  | .bt15 => .run (some .black) .terminating 15
  | .bt16 => .run (some .black) .terminating 16
  | .bt17 => .run (some .black) .terminating 17
  | .bt18 => .run (some .black) .terminating 18
  | .bt19 => .run (some .black) .terminating 19
  | .bt20 => .run (some .black) .terminating 20
  | .bt21 => .run (some .black) .terminating 21
  | .bt22 => .run (some .black) .terminating 22
  | .bt23 => .run (some .black) .terminating 23
  | .bt24 => .run (some .black) .terminating 24
  | .bt25 => .run (some .black) .terminating 25
  | .bt26 => .run (some .black) .terminating 26
  | .bt27 => .run (some .black) .terminating 27
  | .bt28 => .run (some .black) .terminating 28
  | .bt29 => .run (some .black) .terminating 29
  | .bt30 => .run (some .black) .terminating 30
  | .bt31 => .run (some .black) .terminating 31
  | .bt32 => .run (some .black) .terminating 32
  | .bt33 => .run (some .black) .terminating 33
  | .bt34 => .run (some .black) .terminating 34
  | .bt35 => .run (some .black) .terminating 35
  | .bt36 => .run (some .black) .terminating 36
  | .bt37 => .run (some .black) .terminating 37
  | .bt38 => .run (some .black) .terminating 38
  | .bt39 => .run (some .black) .terminating 39
  | .bt40 => .run (some .black) .terminating 40
  | .bt41 => .run (some .black) .terminating 41
  | .bt42 => .run (some .black) .terminating 42
  | .bt43 => .run (some .black) .terminating 43
  | .bt44 => .run (some .black) .terminating 44
  | .bt45 => .run (some .black) .terminating 45
  | .bt46 => .run (some .black) .terminating 46
  | .bt47 => .run (some .black) .terminating 47
  | .bt48 => .run (some .black) .terminating 48
  | .bt49 => .run (some .black) .terminating 49
  | .bt50 => .run (some .black) .terminating 50
  | .bt51 => .run (some .black) .terminating 51
  | .bt52 => .run (some .black) .terminating 52
  | .bt53 => .run (some .black) .terminating 53
  | .bt54 => .run (some .black) .terminating 54
  | .bt55 => .run (some .black) .terminating 55
  | .bt56 => .run (some .black) .terminating 56
  | .bt57 => .run (some .black) .terminating 57
  | .bt58 => .run (some .black) .terminating 58
  | .bt59 => .run (some .black) .terminating 59
  | .bt60 => .run (some .black) .terminating 60
  | .bt61 => .run (some .black) .terminating 61
  | .bt62 => .run (some .black) .terminating 62
  | .bt63 => .run (some .black) .terminating 63
  | .bm64 => .run (some .black) .makeUp 0
  | .bm128 => .run (some .black) .makeUp 1
  | .bm192 => .run (some .black) .makeUp 2
  | .bm256 => .run (some .black) .makeUp 3
  | .bm320 => .run (some .black) .makeUp 4
  | .bm384 => .run (some .black) .makeUp 5
  | .bm448 => .run (some .black) .makeUp 6
  | .bm512 => .run (some .black) .makeUp 7
  | .bm576 => .run (some .black) .makeUp 8
  | .bm640 => .run (some .black) .makeUp 9
  | .bm704 => .run (some .black) .makeUp 10
  | .bm768 => .run (some .black) .makeUp 11
  | .bm832 => .run (some .black) .makeUp 12
  | .bm896 => .run (some .black) .makeUp 13
  | .bm960 => .run (some .black) .makeUp 14
  | .bm1024 => .run (some .black) .makeUp 15
  | .bm1088 => .run (some .black) .makeUp 16
  | .bm1152 => .run (some .black) .makeUp 17
  | .bm1216 => .run (some .black) .makeUp 18
  | .bm1280 => .run (some .black) .makeUp 19
  | .bm1344 => .run (some .black) .makeUp 20
  | .bm1408 => .run (some .black) .makeUp 21
  | .bm1472 => .run (some .black) .makeUp 22
  | .bm1536 => .run (some .black) .makeUp 23
  | .bm1600 => .run (some .black) .makeUp 24
  | .bm1664 => .run (some .black) .makeUp 25
  | .bm1728 => .run (some .black) .makeUp 26
  | .xm1792 => .run none .extended 0
  | .xm1856 => .run none .extended 1
  | .xm1920 => .run none .extended 2
  | .xm1984 => .run none .extended 3
  | .xm2048 => .run none .extended 4
  | .xm2112 => .run none .extended 5
  | .xm2176 => .run none .extended 6
  | .xm2240 => .run none .extended 7
  | .xm2304 => .run none .extended 8
  | .xm2368 => .run none .extended 9
  | .xm2432 => .run none .extended 10
  | .xm2496 => .run none .extended 11
  | .xm2560 => .run none .extended 12
  | .eob => .endOfBlock

/-- The run in pixels of a run entry (R131, R132): the index; `(i+1)*64`; or `1792 + (i + offset)*64`, where the offset
is the build's `P_EXT_MAKEUP_INDEX_OFFSET`. -/
def runPixels (offset : Nat) : RunKind → Nat → Nat
  | .terminating, i => i
  | .makeUp, i => (i + 1) * 64
  | .extended, i => 1792 + (i + offset) * 64

/-- The pixels a run code adds to its run; a code that is no run code adds none. -/
def Instr.pixels (cfg : Config) (i : Instr) : Nat :=
  match i.payload with
  | .run _ kind index => runPixels cfg.extOffset.val kind index
  | .mode _ => 0
  | .endOfBlock => 0

/-- The terminating flag of R83. -/
def Instr.terminates (i : Instr) : Bool :=
  match i.payload with
  | .run _ kind _ => kind == .terminating
  | .mode _ => false
  | .endOfBlock => false

/-- The signed offset of a VERTICAL code (R93, R156). -/
def Instr.offset? (i : Instr) : Option Int :=
  match i.payload with
  | .mode (.vertical k) => some k
  | _ => none

/-- `MODE_LIST`, in the order of R151. -/
def modeList : List Instr :=
   [.v0, .vr1, .vl1, .h, .p, .vr2, .vl2, .vr3, .vl3, .ext]

/-- WT0 .. WT63 (R133); the place in the list is the run. -/
def whiteTerminating : List Instr :=
   [.wt0, .wt1, .wt2, .wt3, .wt4, .wt5, .wt6, .wt7, .wt8, .wt9, .wt10, .wt11, .wt12, .wt13, .wt14, .wt15, .wt16,
    .wt17, .wt18, .wt19, .wt20, .wt21, .wt22, .wt23, .wt24, .wt25, .wt26, .wt27, .wt28, .wt29, .wt30, .wt31] ++
   [.wt32, .wt33, .wt34, .wt35, .wt36, .wt37, .wt38, .wt39, .wt40, .wt41, .wt42, .wt43, .wt44, .wt45, .wt46, .wt47,
    .wt48, .wt49, .wt50, .wt51, .wt52, .wt53, .wt54, .wt55, .wt56, .wt57, .wt58, .wt59, .wt60, .wt61, .wt62, .wt63]

/-- WM64 .. WM1728 (R134). -/
def whiteMakeUp : List Instr :=
   [.wm64, .wm128, .wm192, .wm256, .wm320, .wm384, .wm448, .wm512, .wm576, .wm640, .wm704, .wm768, .wm832, .wm896,
    .wm960, .wm1024, .wm1088, .wm1152, .wm1216, .wm1280, .wm1344, .wm1408, .wm1472, .wm1536, .wm1600, .wm1664,
    .wm1728]

/-- BT0 .. BT63 (R135). -/
def blackTerminating : List Instr :=
   [.bt0, .bt1, .bt2, .bt3, .bt4, .bt5, .bt6, .bt7, .bt8, .bt9, .bt10, .bt11, .bt12, .bt13, .bt14, .bt15, .bt16,
    .bt17, .bt18, .bt19, .bt20, .bt21, .bt22, .bt23, .bt24, .bt25, .bt26, .bt27, .bt28, .bt29, .bt30, .bt31] ++
   [.bt32, .bt33, .bt34, .bt35, .bt36, .bt37, .bt38, .bt39, .bt40, .bt41, .bt42, .bt43, .bt44, .bt45, .bt46, .bt47,
    .bt48, .bt49, .bt50, .bt51, .bt52, .bt53, .bt54, .bt55, .bt56, .bt57, .bt58, .bt59, .bt60, .bt61, .bt62, .bt63]

/-- BM64 .. BM1728 (R136). -/
def blackMakeUp : List Instr :=
   [.bm64, .bm128, .bm192, .bm256, .bm320, .bm384, .bm448, .bm512, .bm576, .bm640, .bm704, .bm768, .bm832, .bm896,
    .bm960, .bm1024, .bm1088, .bm1152, .bm1216, .bm1280, .bm1344, .bm1408, .bm1472, .bm1536, .bm1600, .bm1664,
    .bm1728]

/-- XM1792 .. XM2560 (R137). -/
def extendedMakeUp : List Instr :=
   [.xm1792, .xm1856, .xm1920, .xm1984, .xm2048, .xm2112, .xm2176, .xm2240, .xm2304, .xm2368, .xm2432, .xm2496,
    .xm2560]

/-- `list(c)` of R138: the terminating codes of the colour, its make-up codes, the shared extended ones. -/
def runList : Colour → List Instr
  | .white => whiteTerminating ++ whiteMakeUp ++ extendedMakeUp
  | .black => blackTerminating ++ blackMakeUp ++ extendedMakeUp

/-- `ModeMatch(w8)` (R153): the first entry that matches; `none` is the sentinel. -/
def modeMatch (w : BitVec 8) : Option Instr := modeList.find? fun i => i.code.matchesIn 8 w

/-- `RunMatch(w16, c)` (R139): the first entry of the colour's list that matches; `none` is the sentinel. -/
def runMatch (w : BitVec 16) (c : Colour) : Option Instr := (runList c).find? fun i => i.code.matchesIn 16 w

/-- The end-of-block comparison (R88, R197) on the top 24 bits of the lookahead. -/
def isEndOfBlock (w : BitVec 24) : Bool := w == Instr.eob.code.value 24

/-- Why a window is no code, by the context it was read in. -/
inductive Reject where
  /-- no mode entry matches: the windows `0000000x` (R95) -/
  | noModeCode
  /-- no run entry of the colour matches: the windows below 0x0100 (R96) -/
  | noRunCode
  /-- the next 24 bits are not the end-of-block pattern (R88) -/
  | noEndOfBlock
deriving DecidableEq, Repr

/-- The decoder: the code at the head of a 32-bit lookahead window, in a context (R80, R91). -/
def decodeWindow (ctx : CodeContext) (w : Acc) : Except Reject Instr :=
  match ctx with
  | .mode =>
    match modeMatch (w.extractLsb' 24 8) with
    | some i => .ok i
    | none => .error .noModeCode
  | .run c =>
    match runMatch (w.extractLsb' 16 16) c with
    | some i => .ok i
    | none => .error .noRunCode
  | .endOfBlock => if isEndOfBlock (w.extractLsb' 8 24) then .ok .eob else .error .noEndOfBlock

/-- The first four bytes of a byte sequence as a lookahead window, the first byte highest (R66), zeros where it ends. -/
def windowOfBytes (bs : List Byte) : Acc :=
  bs.getD 0 0 ++ bs.getD 1 0 ++ bs.getD 2 0 ++ bs.getD 3 0

/-- The decoder on bytes: total on any byte sequence. -/
def decode (ctx : CodeContext) (bs : List Byte) : Except Reject Instr := decodeWindow ctx (windowOfBytes bs)

/-- The `k` bytes of a number, most significant first: a table word as it lies in `SRC` (R66). -/
def bytesOfWord : Nat → Nat → List Byte
  | 0, _ => []
  | k + 1, w => BitVec.ofNat 8 (w >>> (8 * k)) :: bytesOfWord k w

/-- The colour list in which a 16-bit table word stands by itself. White and black codes share bit patterns and a table
word carries no colour, so a word that is an isolated white code (R141) is read as white, else one that is an isolated
black code as black, and any other word as white (DESIGN CHOICE, log entry 10). -/
def tableColour (w : Nat) : Colour :=
  if (runList .white).any fun i => i.code.value 16 == BitVec.ofNat 16 w then .white
  else if (runList .black).any fun i => i.code.value 16 == BitVec.ofNat 16 w then .black
  else .white

/-- The context of a row of spec/opcode_table.json, told by the width of its comparison window (R80). -/
def tableContext (nbits w : Nat) : Option CodeContext :=
  if nbits = 8 then some .mode
  else if nbits = 16 then some (.run (tableColour w))
  else if nbits = 24 then some .endOfBlock
  else none

/-- The instruction the decoder reads from a table word of `nbits` bits, laid out most significant byte first. -/
def decodeTableWord (nbits w : Nat) : Option Instr :=
  match tableContext nbits w with
  | none => none
  | some ctx =>
    match decode ctx (bytesOfWord (nbits / 8) w) with
    | .ok i => some i
    | .error _ => none

/-! The encoder. -/

/-- The bits of a code (R100), the first-consumed bit first. -/
def encode (i : Instr) : List Bool := i.code.toBits

/-- The code at the top of an otherwise zero lookahead window (R82, R141). -/
def encodeWindow (i : Instr) : Acc := i.code.value 32

/-- The bit string of a program: the codes in order, with nothing between them (R80, R100). -/
def assemble (is : List Instr) : List Bool := is.flatMap encode

/-- One byte from at most eight bits, the first bit most significant, zeros where the bits end (R104). -/
def byteOfBits (bs : List Bool) : Byte :=
  (List.range 8).foldl (fun b j => if bs.getD j false then b ||| (0x80#8 >>> j) else b) 0

/-- `.pad` and the packing of R104, `n` bytes long. -/
def packBytes : Nat → List Bool → List Byte
  | 0, _ => []
  | n + 1, bs => byteOfBits (bs.take 8) :: packBytes n (bs.drop 8)

/-- A bit string packed into `SRC`: `N` is the length over eight, rounded up (R104). -/
def pack (bs : List Bool) : List Byte := packBytes ((bs.length + 7) / 8) bs

/-- The largest make-up code of colour `c` that is at most `n` pixels, of the standard values (R101). -/
def largestMakeUp (c : Colour) (n : Nat) : Option Instr :=
  ((match c with | .white => whiteMakeUp | .black => blackMakeUp) ++ extendedMakeUp).reverse.find?
    fun i => i.pixels Config.standard ≤ n

/-- The terminating code of colour `c` for a run of 0 to 63 pixels (R131). -/
def terminatingCode (c : Colour) (n : Nat) : Option Instr :=
  match c with
  | .white => whiteTerminating[n]?
  | .black => blackTerminating[n]?

/-- The loop of R101, with the number of make-up codes it may still emit. -/
def canonicalRunFrom : Nat → Colour → Nat → List Instr
  | 0, c, n => (terminatingCode c n).toList
  | fuel + 1, c, n =>
    if n < 64 then (terminatingCode c n).toList
    else match largestMakeUp c n with
      | some m => m :: canonicalRunFrom fuel c (n - m.pixels Config.standard)
      | none => []

/-- The pseudo-instruction `run(c, n)` (R101): each make-up code takes at least 64 pixels, so `n / 64` bounds them. -/
def canonicalRun (c : Colour) (n : Nat) : List Instr := canonicalRunFrom (n / 64) c n

/-- `H r1, r2` of R100 in the current colour `c`. -/
def horizontalCodes (c : Colour) (r1 r2 : Nat) : List Instr := .h :: (canonicalRun c r1 ++ canonicalRun c.opp r2)

end Sys2Proof
end

