-- ==== Sys2Proof/Machine/State.lean ====
section
/-! DEFINITION. The state of the core (10_state.md R20 to R37), the reasons a step can stop, and the state after reset
(70_reset_and_hazards.md R261). -/

namespace Sys2Proof.Machine

/-- `OUT` (20_memory.md R60, R64): the bytes written so far, addresses strictly rising. An address that is not listed
has never been written and reads as no value (log entry 4). -/
abbrev Memory := List Host.Cell

/-- The canonical form: addresses strictly rising. (An unlisted address reads as no value, so no entry equals it.) -/
abbrev Memory.wf (m : Memory) : Prop := m.Pairwise fun p q => p.1 < q.1

/-- The state of the Line Decoder state machine (R31, R170). -/
inductive Phase where
  | idle
  | between
  | within
  | done
deriving DecidableEq, Repr

/-- Why a launch ended (60_exceptions.md R233). The reserved codes have no constructor: they are never produced. -/
inductive Cause where
  | none
  | endOfBlock
  | endOfInput
  | zeroLookahead
  | unrecognizedMode
  | corruptRunCode
  | unexpectedEnd
  | verticalRange
  | lineLimit
  | configInvalid
deriving DecidableEq, Repr

/-- The status record the host reads (R35). -/
structure Status where
  busy : Bool
  done : Bool
  error : Bool
  cause : Cause
  /-- `PARTIAL` -/
  partialLine : Bool
  /-- `LINES` -/
  lines : Nat
  /-- `CONSUMED` -/
  consumed : Nat
deriving DecidableEq, Repr

/-- Every field 0 (R261, R262). -/
def Status.clear : Status :=
  { busy := false, done := false, error := false, cause := .none, partialLine := false, lines := 0, consumed := 0 }

/-- The Bit Window (R21): the byte sequence latched at START, the index of the next unread byte, the accumulator and
the number of its bits not backed by source data. `N` is the length of `source`. -/
structure Window where
  source : List Byte
  sourcePos : Nat
  buffer : Acc
  emptyBits : Nat
deriving DecidableEq, Repr

/-- The core's inputs (R36): the START and RST pulses the host gives before the next step, and the launch parameters it
presents. They are the host's, not the core's: a step only takes the pulses down (log entry 6). -/
structure Pins where
  start : Bool
  rst : Bool
  /-- `WIDTH` -/
  width : Nat
  /-- `INVERT` -/
  invert : Bool
  /-- `SRC[0..N-1]`; `N` is its length -/
  src : List Byte
deriving DecidableEq, Repr

/-- Which table the next code is read with (R80), and the working values of a HORIZONTAL step whose runs are being read
(R34). A coding step is atomic, so between coding steps this is `mode`; the other values place the machine inside a
coding step, where a run code or the end-of-block check comes next (log entry 7). -/
inductive Reading where
  /-- at the top of a coding step -/
  | mode
  /-- reading the first run of a HORIZONTAL step, in the current colour; `total` is the pixels read so far -/
  | firstRun (total : Nat)
  /-- reading the second run, in the other colour, after a first run of `r1` pixels -/
  | secondRun (r1 total : Nat)
  /-- right after a line completed, before the end-of-block check -/
  | endOfBlock
deriving DecidableEq, Repr

/-- The machine. -/
structure State where
  /-- the build's parameters (R9); no step writes them -/
  cfg : Config
  /-- the host's inputs (R36) -/
  pins : Pins
  /-- the Bit Window (R21) -/
  win : Window
  /-- `a0` (R25) -/
  a0 : Nat
  /-- `color` (R26) -/
  color : Colour
  /-- `cur[0..width-1]`; a pixel not yet written holds no value (R28) -/
  cur : List (Option Colour)
  /-- `ref[0..width-1]`, always uninverted (R29) -/
  ref : List Colour
  /-- `lines` (R30) -/
  lines : Nat
  /-- `phase` (R31) -/
  phase : Phase
  /-- `width`, latched at START (R33) -/
  width : Nat
  /-- `invert`, latched at START (R32) -/
  invert : Bool
  /-- the place inside a coding step (R34, R80) -/
  reading : Reading
  /-- `status` (R35) -/
  status : Status
  /-- `OUT` (R64) -/
  out : Memory
deriving DecidableEq, Repr

/-- The machine stops: the spec calls the read a model error and asks for a fault. -/
inductive Fault where
  /-- A line that completes has a pixel that no fill wrote (R28, 93_implementation_defined.md I13). Raised by line
  completion; safe; no state that meets `State.inv` reaches it. -/
  | unwrittenPixel
deriving DecidableEq, Repr

/-- The machine has no meaning for what was asked. -/
inductive Refusal where
  /-- an instruction whose arm of `exec` has no meaning yet; safe; no arm is one -/
  | notModelled (mnemonic : String)
  /-- A code is executed where the decoder is not reading its table (R80, R171). Raised by every meaning; safe; `step`
  never asks for one. -/
  | outOfContext
  /-- The host writes `SRC` while the core is busy (R63, 93_implementation_defined.md I10). Raised by `hostMove`; safe. -/
  | sourceWriteWhileBusy
deriving DecidableEq, Repr

/-- What a step or a meaning answers. -/
abbrev Result := Host.Outcome State Fault Refusal

/-- Right after reset, at power-up (R261). The values the spec gives: phase IDLE, every status field 0, `lines` 0. The
datapath elements are "unspecified" there: DESIGN CHOICE (log entry 2), the values of a window with no source (R113)
and of a line decoder at a line start. `OUT` has nothing written (log entry 4), the host presents nothing (log entry 6)
and the build is the standard one (log entry 1). -/
def State.reset : State :=
  { cfg := Config.standard
    pins := { start := false, rst := false, width := 0, invert := false, src := [] }
    win := { source := [], sourcePos := 0, buffer := 0, emptyBits := 32 }
    a0 := 0
    color := .white
    cur := []
    ref := []
    lines := 0
    phase := .idle
    width := 0
    invert := false
    reading := .mode
    status := Status.clear
    out := [] }

end Sys2Proof.Machine
end

