-- ==== Sys2Proof/Machine/Flags.lean ====
section
/-! DEFINITION. The one-bit elements of R39 and how each is computed: the colour register and the status bits. -/

namespace Sys2Proof.Machine

/-- The colour after a VERTICAL code: it is toggled (R187 to R193). -/
def colourAfterVertical (c : Colour) : Colour := c.opp

/-- The colour after HORIZONTAL in colour `c`: unchanged under KEEP, toggled under FLIP (R186). -/
def colourAfterHorizontal (cfg : Config) (c : Colour) : Colour :=
  match cfg.hColor with
  | .keep => c
  | .flip => c.opp

/-- `PARTIAL` at a raise: 1 exactly when a mode code of the dropped line was consumed (R236). -/
def partialAt : Phase → Bool
  | .within => true
  | .idle | .between | .done => false

/-- The phases in which coding steps run (R171), and in which `BUSY` is 1 (R35). -/
def Phase.coding : Phase → Bool
  | .between | .within => true
  | .idle | .done => false

/-- The machine is inside a launch. -/
abbrev State.busy (s : State) : Prop := s.phase.coding = true

/-- The 4-bit code of a cause (R233). -/
def Cause.code : Cause → BitVec 4
  | .none => 0
  | .endOfBlock => 1
  | .endOfInput => 2
  | .zeroLookahead => 3
  | .unrecognizedMode => 4
  | .corruptRunCode => 8
  | .unexpectedEnd => 9
  | .verticalRange => 10
  | .lineLimit => 11
  | .configInvalid => 12

/-- The status at the end of a launch (R231, R232, R236): `LINES` is the line counter, `CONSUMED` stays as the last
consumption left it. -/
def endStatus (error : Bool) (cause : Cause) (s : State) : Status :=
  { busy := false, done := true, error := error, cause := cause, partialLine := partialAt s.phase,
    lines := s.lines, consumed := s.status.consumed }

end Sys2Proof.Machine
end

