-- ==== Sys2Proof/Machine/Ops.lean ====
section
/-! DEFINITION. The operations the meanings share: the output bytes, the Bit Window (40_bit_window.md), the end of a
launch (60_exceptions.md R231, R232), the fill of the coding line (R181), and line completion with emission and the
end-of-block check (R195 to R198). -/

namespace Sys2Proof.Machine

/-! The output bytes (R64). -/

/-- The byte at an address of `OUT`; `none` where nothing was written. -/
def Memory.read : Memory → Nat → Option Byte
  | [], _ => none
  | (k, v) :: m, a => if k = a then some v else Memory.read m a

/-- `MemWrite(OUT, a, 1, b)` (R15). -/
def Memory.write : Memory → Nat → Byte → Memory
  | [], a, b => [(a, b)]
  | (k, v) :: m, a, b =>
    if a < k then (a, b) :: (k, v) :: m
    else if a = k then (a, b) :: m
    else (k, v) :: Memory.write m a b

/-- Bytes written one after the other from an address up. -/
def Memory.writeLine : Memory → Nat → List Byte → Memory
  | m, _, [] => m
  | m, a, b :: bs => Memory.writeLine (m.write a b) (a + 1) bs

/-! The Bit Window. -/

/-- The valid bits, `32 - empty_bits` (R111). -/
def Window.valid (w : Window) : Nat := 32 - w.emptyBits

/-- The stream position `sp = 8 * source_pos - (32 - empty_bits)` (R24). -/
def Window.position (w : Window) : Nat := 8 * w.sourcePos - w.valid

/-- The stream bits not yet consumed, `8 * (N - source_pos) + valid` (R123). -/
def Window.remaining (w : Window) : Nat := 8 * (w.source.length - w.sourcePos) + w.valid

/-- The accumulator with one byte put in at shift `sh`, its eight target bits cleared first (R112, R120). -/
def insertByte (buffer : Acc) (sh : Nat) (b : Byte) : Acc :=
  (buffer &&& ~~~((0xFF#32) <<< sh)) ||| ((b.setWidth 32) <<< sh)

/-- `Refill` (R112), its loop bounded by the passes that `empty_bits >= 8` allows. -/
def Window.refillFrom : Nat → Window → Window
  | 0, w => w
  | n + 1, w =>
    if 8 ≤ w.emptyBits then
      match w.source[w.sourcePos]? with
      | none => w
      | some b =>
        Window.refillFrom n
          { w with buffer := insertByte w.buffer (w.emptyBits - 8) b
                   emptyBits := w.emptyBits - 8
                   sourcePos := w.sourcePos + 1 }
    else w

/-- `Refill()` (R112): each pass takes 8 from `empty_bits`, so `empty_bits / 8` passes are all there can be. -/
def Window.refill (w : Window) : Window := w.refillFrom (w.emptyBits / 8)

/-- `Construct(SRC, N)` (R113). -/
def Window.construct (src : List Byte) : Window :=
  Window.refill { source := src, sourcePos := 0, buffer := 0, emptyBits := 32 }

/-- `Peek(8)` (R114): the top bits and the valid count. The three widths are the only ones (I11). -/
def Window.peek8 (w : Window) : BitVec 8 × Nat := (w.buffer.extractLsb' 24 8, w.valid)

/-- `Peek(16)` (R114). -/
def Window.peek16 (w : Window) : BitVec 16 × Nat := (w.buffer.extractLsb' 16 16, w.valid)

/-- `Peek(32)` (R114). -/
def Window.peek32 (w : Window) : BitVec 32 × Nat := (w.buffer, w.valid)

/-- `Consume(n)` (R115). The callers check `n ≤ valid` first (R116, I12). -/
def Window.consume (n : Nat) (w : Window) : Window :=
  Window.refill { w with buffer := w.buffer <<< n, emptyBits := w.emptyBits + n }

/-- `HasRemaining()` (R117). -/
def Window.hasRemaining (w : Window) : Bool := !(w.valid == 0 && decide (w.source.length ≤ w.sourcePos))

/-- The machine consumes `n` bits; `CONSUMED` reports the new stream position (R24, R35). -/
def State.consume (n : Nat) (s : State) : State :=
  { s with win := s.win.consume n
           status := { s.status with consumed := (s.win.consume n).position } }

/-! The end of a launch. This is the core's only exception: nothing is saved and nothing returns (R230, R238). -/

/-- What `raise` does (R231, R232): the phase becomes DONE, the status is recorded, the coding step is over. -/
def endLaunch (error : Bool) (cause : Cause) (s : State) : State :=
  { s with phase := .done, reading := .mode, status := endStatus error cause s }

/-- `raise Stop(cause)` (R231). -/
def raiseStop (cause : Cause) (s : State) : State := endLaunch false cause s

/-- `raise Fault(cause)` (R232). -/
def raiseFault (cause : Cause) (s : State) : State := endLaunch true cause s

/-! The coding line. -/

/-- `Fill` on a line store: from index `i` on, the pixels `lo ≤ x < hi` become `c`. -/
def fillFrom (lo hi : Nat) (c : Colour) : Nat → List (Option Colour) → List (Option Colour)
  | _, [] => []
  | i, p :: ps => (if lo ≤ i ∧ i < hi then some c else p) :: fillFrom lo hi c (i + 1) ps

/-- `Fill(lo, hi, c)` (R181), clipped at the width; positions are never negative here. -/
def State.fill (lo hi : Nat) (c : Colour) (s : State) : State :=
  { s with cur := fillFrom lo (min hi s.width) c 0 s.cur }

/-- The first `n` pixels of a line store, if every one of them is written (R28). -/
def writtenPixels : Nat → List (Option Colour) → Option (List Colour)
  | 0, _ => some []
  | n + 1, some c :: ps => (writtenPixels n ps).map (c :: ·)
  | _ + 1, none :: _ => none
  | _ + 1, [] => none

/-- The output byte of a colour, inverted first if `invert = 1` (R196). -/
def State.pixelByte (s : State) (c : Colour) : Byte :=
  match (if s.invert then c.opp else c) with
  | .white => s.cfg.pixelWhite
  | .black => s.cfg.pixelBlack

/-- `Emit` (R196): the line's bytes, then `lines`, and with it `LINES` (R72). -/
def State.emit (line : List Colour) (s : State) : State :=
  { s with out := s.out.writeLine (s.lines * s.width) (line.map s.pixelByte)
           lines := s.lines + 1
           status := { s.status with lines := s.lines + 1 } }

/-- The new line of R195: the finished line becomes the reference, uninverted (R198), and the decoder is at a line
start, with the end-of-block check still to come. -/
def State.newLine (line : List Colour) (s : State) : State :=
  { s with ref := line, cur := List.replicate s.width none, a0 := 0, color := .white, phase := .between,
           reading := .endOfBlock }

/-- `P_MAX_LINES` is bounded and `lines = P_MAX_LINES` (R195, R244). -/
def State.atLineLimit (s : State) : Bool := s.cfg.maxLines == some s.lines

/-- The end-of-block pattern stands next in the stream (R197). -/
def State.showsEndOfBlock (s : State) : Bool :=
  s.win.hasRemaining && isEndOfBlock (s.win.peek32.1.extractLsb' 8 24)

/-- `CheckEOB` (R197): the pattern ends the launch and stays unconsumed. -/
def State.checkEndOfBlock (s : State) : State :=
  if s.showsEndOfBlock then raiseStop .endOfBlock s else { s with reading := .mode }

/-- `CompleteLine` (R195). -/
def completeLine (s : State) : Result :=
  if s.atLineLimit then .next (raiseFault .lineLimit s)
  else
    match writtenPixels s.width s.cur with
    | none => .fault .unwrittenPixel
    | some line => .next ((s.emit line).newLine line).checkEndOfBlock

/-- Step (6) of R171: the line is complete when `a0 ≥ width`. -/
def finishStep (s : State) : Result :=
  if s.width ≤ s.a0 then completeLine s else .next { s with reading := .mode }

end Sys2Proof.Machine
end

