-- ==== Sys2Proof/Machine/Operands.lean ====
section
/-! DEFINITION. The operands of the codes: the reference-line positions b1 and b2 (43_line_decoder.md R180), the target
of a VERTICAL code, the runs of HORIZONTAL (41_run_length_codes.md R143), and the two shapes every meaning has: a mode
code with its action (R171 steps 4 to 6) and one run code (the loop body of R143). -/

namespace Sys2Proof.Machine

/-! The reference line. -/

/-- The first index `x ≥ start` at which `hit` holds of the colours of `x - 1` and `x`; `prev` is the colour before the
list, whose first pixel has index `i`. -/
def firstFrom (hit : Colour → Colour → Bool) (start : Nat) : Colour → Nat → List Colour → Option Nat
  | _, _, [] => none
  | prev, i, c :: cs => if start ≤ i ∧ hit prev c then some i else firstFrom hit start c (i + 1) cs

/-- The same on a whole line; the imaginary pixel at -1 is WHITE (R14, R180). -/
def firstOnLine (hit : Colour → Colour → Bool) (start : Nat) (line : List Colour) : Option Nat :=
  firstFrom hit start .white 0 line

/-- Where the search for b1 starts (R180): after `a0`, or at index 0 when `a0 = 0`. -/
def searchStart (a0 : Nat) : Nat := if a0 = 0 then 0 else a0 + 1

/-- `FindB(FIRST_ONLY)` (R180): the first transition to the colour opposite to the current one, or the width. -/
def findB1 (s : State) : Nat :=
  (firstOnLine (fun p c => p != c && c == s.color.opp) (searchStart s.a0) s.ref).getD s.width

/-- `FindB(FULL)` (R180): b1, and the first transition after it; what is missing defaults to the width. -/
def findB (s : State) : Nat × Nat :=
  if findB1 s = s.width then (s.width, s.width)
  else (findB1 s, (firstOnLine (fun p c => p != c) (findB1 s + 1) s.ref).getD s.width)

/-- The target of a VERTICAL code, a signed integer (R93, R156). -/
def verticalTarget (k : Int) (s : State) : Int := (findB1 s : Int) + k

/-! The runs. -/

/-- The end of a run read: the run's length, or a launch that ended inside it. -/
inductive RunRead where
  | run (pixels : Nat) (s : State)
  | ended (s : State)
deriving DecidableEq, Repr

/-- The checks of R143 on the next run code of colour `c`, in their order. -/
def nextRunCode (c : Colour) (w : Window) : Except Cause Instr :=
  if w.valid = 0 then .error .unexpectedEnd
  else
    match runMatch w.peek16.1 c with
    | none => .error .corruptRunCode
    | some i => if w.valid < i.code.len then .error .unexpectedEnd else .ok i

/-- `DecodeRun(c)` (R143) with `total` pixels read so far. Each pass consumes a bit at least, so the passes are bounded
by the stream bits left; with none left the next read is UNEXPECTED_END. -/
def decodeRunFrom : Nat → Colour → Nat → State → RunRead
  | 0, _, _, s => .ended (raiseFault .unexpectedEnd s)
  | n + 1, c, total, s =>
    match nextRunCode c s.win with
    | .error cause => .ended (raiseFault cause s)
    | .ok i =>
      if i.terminates then .run (total + i.pixels s.cfg) (s.consume i.code.len)
      else decodeRunFrom n c (total + i.pixels s.cfg) (s.consume i.code.len)

/-- `DecodeRun(c)` (R143). -/
def decodeRun (c : Colour) (s : State) : RunRead := decodeRunFrom s.win.remaining c 0 s

/-! The actions of the modes (R177), on a state whose mode code is consumed. -/

/-- What an action leaves: the step goes on to line completion, or the launch ended in it. -/
inductive ActionEnd where
  | goesOn (s : State)
  | ended (s : State)
deriving DecidableEq, Repr

/-- `Pass()` (R185). -/
def passAction (s : State) : ActionEnd :=
  .goesOn { s.fill s.a0 (findB s).2 s.color with a0 := (findB s).2 }

/-- `Vertical(k)` (R187 to R193). -/
def verticalAction (k : Int) (s : State) : ActionEnd :=
  if verticalTarget k s < s.a0 then .ended (raiseFault .verticalRange s)
  else
    .goesOn { s.fill s.a0 (verticalTarget k s).toNat s.color with
                a0 := (verticalTarget k s).toNat, color := colourAfterVertical s.color }

/-- The two fills of HORIZONTAL and its new position and colour, from its two runs (R186). -/
def horizontalFill (r1 r2 : Nat) (s : State) : State :=
  { (s.fill s.a0 (s.a0 + r1) s.color).fill (s.a0 + r1) (s.a0 + r1 + r2) s.color.opp with
      a0 := s.a0 + r1 + r2, color := colourAfterHorizontal s.cfg s.color }

/-- `Horizontal()` (R186). -/
def horizontalAction (s : State) : ActionEnd :=
  match decodeRun s.color s with
  | .ended t => .ended t
  | .run r1 t =>
    match decodeRun s.color.opp t with
    | .ended u => .ended u
    | .run r2 u => .goesOn (horizontalFill r1 r2 u)

/-! The two shapes of a meaning. -/

/-- The state after a mode code is read (R176). -/
def consumeMode (i : Instr) (s : State) : State := { s.consume i.code.len with phase := .within }

/-- A mode code with its action: steps (4) to (6) of R171. -/
def execMode (i : Instr) (action : State → ActionEnd) (s : State) : Result :=
  if s.phase.coding ∧ s.reading = .mode then
    if s.win.valid < i.code.len then .next (raiseFault .unexpectedEnd s)
    else
      match action (consumeMode i s) with
      | .ended t => .next t
      | .goesOn t => finishStep t
  else .refused .outOfContext

/-- EXT at the top of a step: the launch stops and nothing is consumed (R155, R174, R194). -/
def execUnrecognized (s : State) : Result :=
  if s.phase.coding ∧ s.reading = .mode then .next (raiseStop .unrecognizedMode s)
  else .refused .outOfContext

/-- The colour of the run being read, if one is (R186). -/
def State.runColour? (s : State) : Option Colour :=
  match s.reading with
  | .firstRun _ => some s.color
  | .secondRun _ _ => some s.color.opp
  | .mode => none
  | .endOfBlock => none

/-- A run is being read, and the code is one of its colour's list (R138). -/
def State.readsRunCode (i : Instr) (s : State) : Bool :=
  s.phase.coding &&
    match s.runColour? with
    | some c => i.wellFormed (.run c)
    | none => false

/-- The total of a run grows by one code's pixels; a terminating code ends the run, and after the second run the two
are filled in (R143, R186). -/
def addRun (terminates : Bool) (pixels : Nat) (s : State) : Result :=
  match s.reading with
  | .firstRun total =>
    .next { s with reading := if terminates then .secondRun (total + pixels) 0 else .firstRun (total + pixels) }
  | .secondRun r1 total =>
    if terminates then finishStep (horizontalFill r1 (total + pixels) s)
    else .next { s with reading := .secondRun r1 (total + pixels) }
  | .mode => .refused .outOfContext
  | .endOfBlock => .refused .outOfContext

/-- One run code: the loop body of R143 on it. A code not backed by data is not consumed. -/
def execRunCode (i : Instr) (s : State) : Result :=
  if s.readsRunCode i then
    if s.win.valid < i.code.len then .next (raiseFault .unexpectedEnd s)
    else addRun i.terminates (i.pixels s.cfg) (s.consume i.code.len)
  else .refused .outOfContext

end Sys2Proof.Machine
end

