-- ==== Sys2Proof/Machine/BlackRuns.lean ====
section
/-! DEFINITION. The black run codes (41_run_length_codes.md R135, R136). Each meaning is one run code read inside a HORIZONTAL step: `execRunCode` is
the loop body of R143 for that code, and `Decode.lean` holds the code's length and run. -/

namespace Sys2Proof.Machine

/-- BT0: black terminating code, run 0 (R135). -/
def execBt0 (s : State) : Result := execRunCode .bt0 s

/-- BT1: black terminating code, run 1 (R135). -/
def execBt1 (s : State) : Result := execRunCode .bt1 s

/-- BT2: black terminating code, run 2 (R135). -/
def execBt2 (s : State) : Result := execRunCode .bt2 s

/-- BT3: black terminating code, run 3 (R135). -/
def execBt3 (s : State) : Result := execRunCode .bt3 s

/-- BT4: black terminating code, run 4 (R135). -/
def execBt4 (s : State) : Result := execRunCode .bt4 s

/-- BT5: black terminating code, run 5 (R135). -/
def execBt5 (s : State) : Result := execRunCode .bt5 s

/-- BT6: black terminating code, run 6 (R135). -/
def execBt6 (s : State) : Result := execRunCode .bt6 s

/-- BT7: black terminating code, run 7 (R135). -/
def execBt7 (s : State) : Result := execRunCode .bt7 s

/-- BT8: black terminating code, run 8 (R135). -/
def execBt8 (s : State) : Result := execRunCode .bt8 s

/-- BT9: black terminating code, run 9 (R135). -/
def execBt9 (s : State) : Result := execRunCode .bt9 s

/-- BT10: black terminating code, run 10 (R135). -/
def execBt10 (s : State) : Result := execRunCode .bt10 s

/-- BT11: black terminating code, run 11 (R135). -/
def execBt11 (s : State) : Result := execRunCode .bt11 s

/-- BT12: black terminating code, run 12 (R135). -/
def execBt12 (s : State) : Result := execRunCode .bt12 s

/-- BT13: black terminating code, run 13 (R135). -/
def execBt13 (s : State) : Result := execRunCode .bt13 s

/-- BT14: black terminating code, run 14 (R135). -/
def execBt14 (s : State) : Result := execRunCode .bt14 s

/-- BT15: black terminating code, run 15 (R135). -/
def execBt15 (s : State) : Result := execRunCode .bt15 s

/-- BT16: black terminating code, run 16 (R135). -/
def execBt16 (s : State) : Result := execRunCode .bt16 s

/-- BT17: black terminating code, run 17 (R135). -/
def execBt17 (s : State) : Result := execRunCode .bt17 s

/-- BT18: black terminating code, run 18 (R135). -/
def execBt18 (s : State) : Result := execRunCode .bt18 s

/-- BT19: black terminating code, run 19 (R135). -/
def execBt19 (s : State) : Result := execRunCode .bt19 s

/-- BT20: black terminating code, run 20 (R135). -/
def execBt20 (s : State) : Result := execRunCode .bt20 s

/-- BT21: black terminating code, run 21 (R135). -/
def execBt21 (s : State) : Result := execRunCode .bt21 s

/-- BT22: black terminating code, run 22 (R135). -/
def execBt22 (s : State) : Result := execRunCode .bt22 s

/-- BT23: black terminating code, run 23 (R135). -/
def execBt23 (s : State) : Result := execRunCode .bt23 s

/-- BT24: black terminating code, run 24 (R135). -/
def execBt24 (s : State) : Result := execRunCode .bt24 s

/-- BT25: black terminating code, run 25 (R135). -/
def execBt25 (s : State) : Result := execRunCode .bt25 s

/-- BT26: black terminating code, run 26 (R135). -/
def execBt26 (s : State) : Result := execRunCode .bt26 s

/-- BT27: black terminating code, run 27 (R135). -/
def execBt27 (s : State) : Result := execRunCode .bt27 s

/-- BT28: black terminating code, run 28 (R135). -/
def execBt28 (s : State) : Result := execRunCode .bt28 s

/-- BT29: black terminating code, run 29 (R135). -/
def execBt29 (s : State) : Result := execRunCode .bt29 s

/-- BT30: black terminating code, run 30 (R135). -/
def execBt30 (s : State) : Result := execRunCode .bt30 s

/-- BT31: black terminating code, run 31 (R135). -/
def execBt31 (s : State) : Result := execRunCode .bt31 s

/-- BT32: black terminating code, run 32 (R135). -/
def execBt32 (s : State) : Result := execRunCode .bt32 s

/-- BT33: black terminating code, run 33 (R135). -/
def execBt33 (s : State) : Result := execRunCode .bt33 s

/-- BT34: black terminating code, run 34 (R135). -/
def execBt34 (s : State) : Result := execRunCode .bt34 s

/-- BT35: black terminating code, run 35 (R135). -/
def execBt35 (s : State) : Result := execRunCode .bt35 s

/-- BT36: black terminating code, run 36 (R135). -/
def execBt36 (s : State) : Result := execRunCode .bt36 s

/-- BT37: black terminating code, run 37 (R135). -/
def execBt37 (s : State) : Result := execRunCode .bt37 s

/-- BT38: black terminating code, run 38 (R135). -/
def execBt38 (s : State) : Result := execRunCode .bt38 s

/-- BT39: black terminating code, run 39 (R135). -/
def execBt39 (s : State) : Result := execRunCode .bt39 s

/-- BT40: black terminating code, run 40 (R135). -/
def execBt40 (s : State) : Result := execRunCode .bt40 s

/-- BT41: black terminating code, run 41 (R135). -/
def execBt41 (s : State) : Result := execRunCode .bt41 s

/-- BT42: black terminating code, run 42 (R135). -/
def execBt42 (s : State) : Result := execRunCode .bt42 s

/-- BT43: black terminating code, run 43 (R135). -/
def execBt43 (s : State) : Result := execRunCode .bt43 s

/-- BT44: black terminating code, run 44 (R135). -/
def execBt44 (s : State) : Result := execRunCode .bt44 s

/-- BT45: black terminating code, run 45 (R135). -/
def execBt45 (s : State) : Result := execRunCode .bt45 s

/-- BT46: black terminating code, run 46 (R135). -/
def execBt46 (s : State) : Result := execRunCode .bt46 s

/-- BT47: black terminating code, run 47 (R135). -/
def execBt47 (s : State) : Result := execRunCode .bt47 s

/-- BT48: black terminating code, run 48 (R135). -/
def execBt48 (s : State) : Result := execRunCode .bt48 s

/-- BT49: black terminating code, run 49 (R135). -/
def execBt49 (s : State) : Result := execRunCode .bt49 s

/-- BT50: black terminating code, run 50 (R135). -/
def execBt50 (s : State) : Result := execRunCode .bt50 s

/-- BT51: black terminating code, run 51 (R135). -/
def execBt51 (s : State) : Result := execRunCode .bt51 s

/-- BT52: black terminating code, run 52 (R135). -/
def execBt52 (s : State) : Result := execRunCode .bt52 s

/-- BT53: black terminating code, run 53 (R135). -/
def execBt53 (s : State) : Result := execRunCode .bt53 s

/-- BT54: black terminating code, run 54 (R135). -/
def execBt54 (s : State) : Result := execRunCode .bt54 s

/-- BT55: black terminating code, run 55 (R135). -/
def execBt55 (s : State) : Result := execRunCode .bt55 s

/-- BT56: black terminating code, run 56 (R135). -/
def execBt56 (s : State) : Result := execRunCode .bt56 s

/-- BT57: black terminating code, run 57 (R135). -/
def execBt57 (s : State) : Result := execRunCode .bt57 s

/-- BT58: black terminating code, run 58 (R135). -/
def execBt58 (s : State) : Result := execRunCode .bt58 s

/-- BT59: black terminating code, run 59 (R135). -/
def execBt59 (s : State) : Result := execRunCode .bt59 s

/-- BT60: black terminating code, run 60 (R135). -/
def execBt60 (s : State) : Result := execRunCode .bt60 s

/-- BT61: black terminating code, run 61 (R135). -/
def execBt61 (s : State) : Result := execRunCode .bt61 s

/-- BT62: black terminating code, run 62 (R135). -/
def execBt62 (s : State) : Result := execRunCode .bt62 s

/-- BT63: black terminating code, run 63 (R135). -/
def execBt63 (s : State) : Result := execRunCode .bt63 s

/-- BM64: black make-up code, run 64 (R136). -/
def execBm64 (s : State) : Result := execRunCode .bm64 s

/-- BM128: black make-up code, run 128 (R136). -/
def execBm128 (s : State) : Result := execRunCode .bm128 s

/-- BM192: black make-up code, run 192 (R136). -/
def execBm192 (s : State) : Result := execRunCode .bm192 s

/-- BM256: black make-up code, run 256 (R136). -/
def execBm256 (s : State) : Result := execRunCode .bm256 s

/-- BM320: black make-up code, run 320 (R136). -/
def execBm320 (s : State) : Result := execRunCode .bm320 s

/-- BM384: black make-up code, run 384 (R136). -/
def execBm384 (s : State) : Result := execRunCode .bm384 s

/-- BM448: black make-up code, run 448 (R136). -/
def execBm448 (s : State) : Result := execRunCode .bm448 s

/-- BM512: black make-up code, run 512 (R136). -/
def execBm512 (s : State) : Result := execRunCode .bm512 s

/-- BM576: black make-up code, run 576 (R136). -/
def execBm576 (s : State) : Result := execRunCode .bm576 s

/-- BM640: black make-up code, run 640 (R136). -/
def execBm640 (s : State) : Result := execRunCode .bm640 s

/-- BM704: black make-up code, run 704 (R136). -/
def execBm704 (s : State) : Result := execRunCode .bm704 s

/-- BM768: black make-up code, run 768 (R136). -/
def execBm768 (s : State) : Result := execRunCode .bm768 s

/-- BM832: black make-up code, run 832 (R136). -/
def execBm832 (s : State) : Result := execRunCode .bm832 s

/-- BM896: black make-up code, run 896 (R136). -/
def execBm896 (s : State) : Result := execRunCode .bm896 s

/-- BM960: black make-up code, run 960 (R136). -/
def execBm960 (s : State) : Result := execRunCode .bm960 s

/-- BM1024: black make-up code, run 1024 (R136). -/
def execBm1024 (s : State) : Result := execRunCode .bm1024 s

/-- BM1088: black make-up code, run 1088 (R136). -/
def execBm1088 (s : State) : Result := execRunCode .bm1088 s

/-- BM1152: black make-up code, run 1152 (R136). -/
def execBm1152 (s : State) : Result := execRunCode .bm1152 s

/-- BM1216: black make-up code, run 1216 (R136). -/
def execBm1216 (s : State) : Result := execRunCode .bm1216 s

/-- BM1280: black make-up code, run 1280 (R136). -/
def execBm1280 (s : State) : Result := execRunCode .bm1280 s

/-- BM1344: black make-up code, run 1344 (R136). -/
def execBm1344 (s : State) : Result := execRunCode .bm1344 s

/-- BM1408: black make-up code, run 1408 (R136). -/
def execBm1408 (s : State) : Result := execRunCode .bm1408 s

/-- BM1472: black make-up code, run 1472 (R136). -/
def execBm1472 (s : State) : Result := execRunCode .bm1472 s

/-- BM1536: black make-up code, run 1536 (R136). -/
def execBm1536 (s : State) : Result := execRunCode .bm1536 s

/-- BM1600: black make-up code, run 1600 (R136). -/
def execBm1600 (s : State) : Result := execRunCode .bm1600 s

/-- BM1664: black make-up code, run 1664 (R136). -/
def execBm1664 (s : State) : Result := execRunCode .bm1664 s

/-- BM1728: black make-up code, run 1728 (R136). -/
def execBm1728 (s : State) : Result := execRunCode .bm1728 s

end Sys2Proof.Machine
end

