-- ==== Sys2Proof/Machine/EndOfBlock.lean ====
section
/-! DEFINITION. The end-of-block pattern, honoured right after a line completes (43_line_decoder.md R197). -/

namespace Sys2Proof.Machine

/-- EOB (R88, R102, R197): ends the launch with END_OF_BLOCK; its 24 bits are not consumed. -/
def execEob (s : State) : Result :=
  if s.phase.coding ∧ s.reading = .endOfBlock then .next (raiseStop .endOfBlock s)
  else .refused .outOfContext

end Sys2Proof.Machine
end

