-- ==== Sys2Proof/Machine/ExtendedRuns.lean ====
section
/-! DEFINITION. The extended make-up codes, shared by both colours (41_run_length_codes.md R137). Each meaning is one run code read inside a HORIZONTAL step: `execRunCode` is
the loop body of R143 for that code, and `Decode.lean` holds the code's length and run. -/

namespace Sys2Proof.Machine

/-- XM1792: either colour make-up code, run 1792 (R137). -/
def execXm1792 (s : State) : Result := execRunCode .xm1792 s

/-- XM1856: either colour make-up code, run 1856 (R137). -/
def execXm1856 (s : State) : Result := execRunCode .xm1856 s

/-- XM1920: either colour make-up code, run 1920 (R137). -/
def execXm1920 (s : State) : Result := execRunCode .xm1920 s

/-- XM1984: either colour make-up code, run 1984 (R137). -/
def execXm1984 (s : State) : Result := execRunCode .xm1984 s

/-- XM2048: either colour make-up code, run 2048 (R137). -/
def execXm2048 (s : State) : Result := execRunCode .xm2048 s

/-- XM2112: either colour make-up code, run 2112 (R137). -/
def execXm2112 (s : State) : Result := execRunCode .xm2112 s

/-- XM2176: either colour make-up code, run 2176 (R137). -/
def execXm2176 (s : State) : Result := execRunCode .xm2176 s

/-- XM2240: either colour make-up code, run 2240 (R137). -/
def execXm2240 (s : State) : Result := execRunCode .xm2240 s

/-- XM2304: either colour make-up code, run 2304 (R137). -/
def execXm2304 (s : State) : Result := execRunCode .xm2304 s

/-- XM2368: either colour make-up code, run 2368 (R137). -/
def execXm2368 (s : State) : Result := execRunCode .xm2368 s

/-- XM2432: either colour make-up code, run 2432 (R137). -/
def execXm2432 (s : State) : Result := execRunCode .xm2432 s

/-- XM2496: either colour make-up code, run 2496 (R137). -/
def execXm2496 (s : State) : Result := execRunCode .xm2496 s

/-- XM2560: either colour make-up code, run 2560 (R137). -/
def execXm2560 (s : State) : Result := execRunCode .xm2560 s

end Sys2Proof.Machine
end

