-- ==== Sys2Proof/Machine/ModeCodes.lean ====
section
/-! DEFINITION. The ten mode codes, one coding step each (43_line_decoder.md R185 to R194). -/

namespace Sys2Proof.Machine

/-- P, PASS (R185): white or black up to b2, the colour unchanged. -/
def execP (s : State) : Result := execMode .p passAction s

/-- H, HORIZONTAL (R186): a run of the current colour, then a run of the other. -/
def execH (s : State) : Result := execMode .h horizontalAction s

/-- V0 (R187): the target is b1. -/
def execV0 (s : State) : Result := execMode .v0 (verticalAction 0) s

/-- VR1 (R188): the target is b1 + 1. -/
def execVr1 (s : State) : Result := execMode .vr1 (verticalAction 1) s

/-- VR2 (R189): the target is b1 + 2. -/
def execVr2 (s : State) : Result := execMode .vr2 (verticalAction 2) s

/-- VR3 (R190): the target is b1 + 3. -/
def execVr3 (s : State) : Result := execMode .vr3 (verticalAction 3) s

/-- VL1 (R191): the target is b1 - 1. -/
def execVl1 (s : State) : Result := execMode .vl1 (verticalAction (-1)) s

/-- VL2 (R192): the target is b1 - 2. -/
def execVl2 (s : State) : Result := execMode .vl2 (verticalAction (-2)) s

/-- VL3 (R193): the target is b1 - 3. -/
def execVl3 (s : State) : Result := execMode .vl3 (verticalAction (-3)) s

/-- EXT (R155, R194): stops the launch as an unrecognized mode. -/
def execExt (s : State) : Result := execUnrecognized s

end Sys2Proof.Machine
end

