-- ==== Sys2Proof/Machine/WhiteRuns.lean ====
section
/-! DEFINITION. The white run codes (41_run_length_codes.md R133, R134). Each meaning is one run code read inside a HORIZONTAL step: `execRunCode` is
the loop body of R143 for that code, and `Decode.lean` holds the code's length and run. -/

namespace Sys2Proof.Machine

/-- WT0: white terminating code, run 0 (R133). -/
def execWt0 (s : State) : Result := execRunCode .wt0 s

/-- WT1: white terminating code, run 1 (R133). -/
def execWt1 (s : State) : Result := execRunCode .wt1 s

/-- WT2: white terminating code, run 2 (R133). -/
def execWt2 (s : State) : Result := execRunCode .wt2 s

/-- WT3: white terminating code, run 3 (R133). -/
def execWt3 (s : State) : Result := execRunCode .wt3 s

/-- WT4: white terminating code, run 4 (R133). -/
def execWt4 (s : State) : Result := execRunCode .wt4 s

/-- WT5: white terminating code, run 5 (R133). -/
def execWt5 (s : State) : Result := execRunCode .wt5 s

/-- WT6: white terminating code, run 6 (R133). -/
def execWt6 (s : State) : Result := execRunCode .wt6 s

/-- WT7: white terminating code, run 7 (R133). -/
def execWt7 (s : State) : Result := execRunCode .wt7 s

/-- WT8: white terminating code, run 8 (R133). -/
def execWt8 (s : State) : Result := execRunCode .wt8 s

/-- WT9: white terminating code, run 9 (R133). -/
def execWt9 (s : State) : Result := execRunCode .wt9 s

/-- WT10: white terminating code, run 10 (R133). -/
def execWt10 (s : State) : Result := execRunCode .wt10 s

/-- WT11: white terminating code, run 11 (R133). -/
def execWt11 (s : State) : Result := execRunCode .wt11 s

/-- WT12: white terminating code, run 12 (R133). -/
def execWt12 (s : State) : Result := execRunCode .wt12 s

/-- WT13: white terminating code, run 13 (R133). -/
def execWt13 (s : State) : Result := execRunCode .wt13 s

/-- WT14: white terminating code, run 14 (R133). -/
def execWt14 (s : State) : Result := execRunCode .wt14 s

/-- WT15: white terminating code, run 15 (R133). -/
def execWt15 (s : State) : Result := execRunCode .wt15 s

/-- WT16: white terminating code, run 16 (R133). -/
def execWt16 (s : State) : Result := execRunCode .wt16 s

/-- WT17: white terminating code, run 17 (R133). -/
def execWt17 (s : State) : Result := execRunCode .wt17 s

/-- WT18: white terminating code, run 18 (R133). -/
def execWt18 (s : State) : Result := execRunCode .wt18 s

/-- WT19: white terminating code, run 19 (R133). -/
def execWt19 (s : State) : Result := execRunCode .wt19 s

/-- WT20: white terminating code, run 20 (R133). -/
def execWt20 (s : State) : Result := execRunCode .wt20 s

/-- WT21: white terminating code, run 21 (R133). -/
def execWt21 (s : State) : Result := execRunCode .wt21 s

/-- WT22: white terminating code, run 22 (R133). -/
def execWt22 (s : State) : Result := execRunCode .wt22 s

/-- WT23: white terminating code, run 23 (R133). -/
def execWt23 (s : State) : Result := execRunCode .wt23 s

/-- WT24: white terminating code, run 24 (R133). -/
def execWt24 (s : State) : Result := execRunCode .wt24 s

/-- WT25: white terminating code, run 25 (R133). -/
def execWt25 (s : State) : Result := execRunCode .wt25 s

/-- WT26: white terminating code, run 26 (R133). -/
def execWt26 (s : State) : Result := execRunCode .wt26 s

/-- WT27: white terminating code, run 27 (R133). -/
def execWt27 (s : State) : Result := execRunCode .wt27 s

/-- WT28: white terminating code, run 28 (R133). -/
def execWt28 (s : State) : Result := execRunCode .wt28 s

/-- WT29: white terminating code, run 29 (R133). -/
def execWt29 (s : State) : Result := execRunCode .wt29 s

/-- WT30: white terminating code, run 30 (R133). -/
def execWt30 (s : State) : Result := execRunCode .wt30 s

/-- WT31: white terminating code, run 31 (R133). -/
def execWt31 (s : State) : Result := execRunCode .wt31 s

/-- WT32: white terminating code, run 32 (R133). -/
def execWt32 (s : State) : Result := execRunCode .wt32 s

/-- WT33: white terminating code, run 33 (R133). -/
def execWt33 (s : State) : Result := execRunCode .wt33 s

/-- WT34: white terminating code, run 34 (R133). -/
def execWt34 (s : State) : Result := execRunCode .wt34 s

/-- WT35: white terminating code, run 35 (R133). -/
def execWt35 (s : State) : Result := execRunCode .wt35 s

/-- WT36: white terminating code, run 36 (R133). -/
def execWt36 (s : State) : Result := execRunCode .wt36 s

/-- WT37: white terminating code, run 37 (R133). -/
def execWt37 (s : State) : Result := execRunCode .wt37 s

/-- WT38: white terminating code, run 38 (R133). -/
def execWt38 (s : State) : Result := execRunCode .wt38 s

/-- WT39: white terminating code, run 39 (R133). -/
def execWt39 (s : State) : Result := execRunCode .wt39 s

/-- WT40: white terminating code, run 40 (R133). -/
def execWt40 (s : State) : Result := execRunCode .wt40 s

/-- WT41: white terminating code, run 41 (R133). -/
def execWt41 (s : State) : Result := execRunCode .wt41 s

/-- WT42: white terminating code, run 42 (R133). -/
def execWt42 (s : State) : Result := execRunCode .wt42 s

/-- WT43: white terminating code, run 43 (R133). -/
def execWt43 (s : State) : Result := execRunCode .wt43 s

/-- WT44: white terminating code, run 44 (R133). -/
def execWt44 (s : State) : Result := execRunCode .wt44 s

/-- WT45: white terminating code, run 45 (R133). -/
def execWt45 (s : State) : Result := execRunCode .wt45 s

/-- WT46: white terminating code, run 46 (R133). -/
def execWt46 (s : State) : Result := execRunCode .wt46 s

/-- WT47: white terminating code, run 47 (R133). -/
def execWt47 (s : State) : Result := execRunCode .wt47 s

/-- WT48: white terminating code, run 48 (R133). -/
def execWt48 (s : State) : Result := execRunCode .wt48 s

/-- WT49: white terminating code, run 49 (R133). -/
def execWt49 (s : State) : Result := execRunCode .wt49 s

/-- WT50: white terminating code, run 50 (R133). -/
def execWt50 (s : State) : Result := execRunCode .wt50 s

/-- WT51: white terminating code, run 51 (R133). -/
def execWt51 (s : State) : Result := execRunCode .wt51 s

/-- WT52: white terminating code, run 52 (R133). -/
def execWt52 (s : State) : Result := execRunCode .wt52 s

/-- WT53: white terminating code, run 53 (R133). -/
def execWt53 (s : State) : Result := execRunCode .wt53 s

/-- WT54: white terminating code, run 54 (R133). -/
def execWt54 (s : State) : Result := execRunCode .wt54 s

/-- WT55: white terminating code, run 55 (R133). -/
def execWt55 (s : State) : Result := execRunCode .wt55 s

/-- WT56: white terminating code, run 56 (R133). -/
def execWt56 (s : State) : Result := execRunCode .wt56 s

/-- WT57: white terminating code, run 57 (R133). -/
def execWt57 (s : State) : Result := execRunCode .wt57 s

/-- WT58: white terminating code, run 58 (R133). -/
def execWt58 (s : State) : Result := execRunCode .wt58 s

/-- WT59: white terminating code, run 59 (R133). -/
def execWt59 (s : State) : Result := execRunCode .wt59 s

/-- WT60: white terminating code, run 60 (R133). -/
def execWt60 (s : State) : Result := execRunCode .wt60 s

/-- WT61: white terminating code, run 61 (R133). -/
def execWt61 (s : State) : Result := execRunCode .wt61 s

/-- WT62: white terminating code, run 62 (R133). -/
def execWt62 (s : State) : Result := execRunCode .wt62 s

/-- WT63: white terminating code, run 63 (R133). -/
def execWt63 (s : State) : Result := execRunCode .wt63 s

/-- WM64: white make-up code, run 64 (R134). -/
def execWm64 (s : State) : Result := execRunCode .wm64 s

/-- WM128: white make-up code, run 128 (R134). -/
def execWm128 (s : State) : Result := execRunCode .wm128 s

/-- WM192: white make-up code, run 192 (R134). -/
def execWm192 (s : State) : Result := execRunCode .wm192 s

/-- WM256: white make-up code, run 256 (R134). -/
def execWm256 (s : State) : Result := execRunCode .wm256 s

/-- WM320: white make-up code, run 320 (R134). -/
def execWm320 (s : State) : Result := execRunCode .wm320 s

/-- WM384: white make-up code, run 384 (R134). -/
def execWm384 (s : State) : Result := execRunCode .wm384 s

/-- WM448: white make-up code, run 448 (R134). -/
def execWm448 (s : State) : Result := execRunCode .wm448 s

/-- WM512: white make-up code, run 512 (R134). -/
def execWm512 (s : State) : Result := execRunCode .wm512 s

/-- WM576: white make-up code, run 576 (R134). -/
def execWm576 (s : State) : Result := execRunCode .wm576 s

/-- WM640: white make-up code, run 640 (R134). -/
def execWm640 (s : State) : Result := execRunCode .wm640 s

/-- WM704: white make-up code, run 704 (R134). -/
def execWm704 (s : State) : Result := execRunCode .wm704 s

/-- WM768: white make-up code, run 768 (R134). -/
def execWm768 (s : State) : Result := execRunCode .wm768 s

/-- WM832: white make-up code, run 832 (R134). -/
def execWm832 (s : State) : Result := execRunCode .wm832 s

/-- WM896: white make-up code, run 896 (R134). -/
def execWm896 (s : State) : Result := execRunCode .wm896 s

/-- WM960: white make-up code, run 960 (R134). -/
def execWm960 (s : State) : Result := execRunCode .wm960 s

/-- WM1024: white make-up code, run 1024 (R134). -/
def execWm1024 (s : State) : Result := execRunCode .wm1024 s

/-- WM1088: white make-up code, run 1088 (R134). -/
def execWm1088 (s : State) : Result := execRunCode .wm1088 s

/-- WM1152: white make-up code, run 1152 (R134). -/
def execWm1152 (s : State) : Result := execRunCode .wm1152 s

/-- WM1216: white make-up code, run 1216 (R134). -/
def execWm1216 (s : State) : Result := execRunCode .wm1216 s

/-- WM1280: white make-up code, run 1280 (R134). -/
def execWm1280 (s : State) : Result := execRunCode .wm1280 s

/-- WM1344: white make-up code, run 1344 (R134). -/
def execWm1344 (s : State) : Result := execRunCode .wm1344 s

/-- WM1408: white make-up code, run 1408 (R134). -/
def execWm1408 (s : State) : Result := execRunCode .wm1408 s

/-- WM1472: white make-up code, run 1472 (R134). -/
def execWm1472 (s : State) : Result := execRunCode .wm1472 s

/-- WM1536: white make-up code, run 1536 (R134). -/
def execWm1536 (s : State) : Result := execRunCode .wm1536 s

/-- WM1600: white make-up code, run 1600 (R134). -/
def execWm1600 (s : State) : Result := execRunCode .wm1600 s

/-- WM1664: white make-up code, run 1664 (R134). -/
def execWm1664 (s : State) : Result := execRunCode .wm1664 s

/-- WM1728: white make-up code, run 1728 (R134). -/
def execWm1728 (s : State) : Result := execRunCode .wm1728 s

end Sys2Proof.Machine
end

