-- ==== Sys2Proof/Machine/Launch.lean ====
section
/-! DEFINITION. Reset, launch and the host's moves (70_reset_and_hazards.md). -/

namespace Sys2Proof.Machine

/-- RST (R260, R261): the reset state, in any phase. `OUT` is outside the core and stays, and so do the build's
parameters and what the host presents; the pulses are taken down. -/
def applyReset (s : State) : State :=
  { State.reset with cfg := s.cfg, out := s.out, pins := { s.pins with start := false, rst := false } }

/-- The START values (R263). -/
def beginLaunch (width : Nat) (invert : Bool) (src : List Byte) (s : State) : State :=
  { s with
      win := Window.construct src
      a0 := 0
      color := .white
      ref := List.replicate width .white
      cur := List.replicate width none
      lines := 0
      phase := .between
      width := width
      invert := invert
      reading := .mode
      status := { Status.clear with busy := true } }

/-- The sampled configuration is one the build takes (R262). -/
def State.configValid (s : State) : Bool :=
  decide (1 ≤ s.pins.width) && withinBound s.pins.width s.cfg.maxWidth && withinBound s.pins.src.length s.cfg.maxSrc

/-- The START pulse is taken down. -/
def State.dropStart (s : State) : State := { s with pins := { s.pins with start := false } }

/-- What `Start` clears first (R262). `LINES` is the value of `lines` (R35), so the counter is cleared with it. -/
def State.clearStatus (s : State) : State := { s with lines := 0, status := Status.clear }

/-- `Start()` in phase IDLE or DONE (R262, R243). -/
def applyStart (s : State) : State :=
  if s.configValid then beginLaunch s.pins.width s.pins.invert s.pins.src s.dropStart
  else raiseFault .configInvalid s.dropStart.clearStatus

/-! The host's moves (R41, R266). -/

/-- What the host may do between two steps of the core. -/
inductive HostMove where
  /-- write `SRC[0..N-1]` and `N` -/
  | setSource (src : List Byte)
  /-- present `WIDTH` -/
  | setWidth (width : Nat)
  /-- present `INVERT` -/
  | setInvert (invert : Bool)
  /-- pulse START -/
  | pulseStart
  /-- assert RST -/
  | assertReset
deriving DecidableEq, Repr

/-- A host move (R266). Writing `SRC` while the core is busy is refused (R63, R267, I10). -/
def hostMove (m : HostMove) (s : State) : Result :=
  match m with
  | .setSource src =>
    if s.phase.coding then .refused .sourceWriteWhileBusy else .next { s with pins := { s.pins with src := src } }
  | .setWidth width => .next { s with pins := { s.pins with width := width } }
  | .setInvert invert => .next { s with pins := { s.pins with invert := invert } }
  | .pulseStart => .next { s with pins := { s.pins with start := true } }
  | .assertReset => .next { s with pins := { s.pins with rst := true } }

/-- The host reads the status record, in any phase (R41). -/
def hostStatus (s : State) : Status := s.status

/-- The host reads a byte of `OUT`. While the core is busy, only the emitted lines are its to read (R41, R274); a byte
above them, which has any value there, answers none (DESIGN CHOICE, log entry 16). -/
def hostRead (a : Nat) (s : State) : Option Byte :=
  if s.phase.coding ∧ s.status.lines * s.width ≤ a then none else s.out.read a

end Sys2Proof.Machine
end

