-- ==== Sys2Proof/Machine/CodingStep.lean ====
section
/-! DEFINITION. The coding step (43_line_decoder.md R171 to R174), the reading of one code inside it, the machine's
transition (R170), and how a table word comes to stand where the next code is read. -/

namespace Sys2Proof.Machine

/-- `CodingStep()` (R171): the checks at its top, the mode lookup, and the meaning of the code, which holds the rest. -/
def codingStep (s : State) : Result :=
  if s.win.hasRemaining then
    if s.win.peek32.1 = 0 then .next (raiseStop .zeroLookahead s)
    else
      match modeMatch s.win.peek8.1 with
      | none => .next (raiseStop .unrecognizedMode s)
      | some i => exec i s
  else .next (raiseStop .endOfInput s)

/-- One code of a run of colour `c`, inside a HORIZONTAL step: the checks of R143, then the meaning of the code. -/
def runCodeStep (c : Colour) (s : State) : Result :=
  if s.win.valid = 0 then .next (raiseFault .unexpectedEnd s)
  else
    match runMatch s.win.peek16.1 c with
    | none => .next (raiseFault .corruptRunCode s)
    | some i => exec i s

/-- The end-of-block check by itself (R197). -/
def endOfBlockStep (s : State) : Result :=
  if s.showsEndOfBlock then exec .eob s else .next { s with reading := .mode }

/-- One transition inside a launch. At the top of a coding step it is the whole coding step; a machine placed inside a
coding step reads one code there. -/
def launchStep (s : State) : Result :=
  match s.reading with
  | .mode => codingStep s
  | .firstRun _ => runCodeStep s.color s
  | .secondRun _ _ => runCodeStep s.color.opp s
  | .endOfBlock => endOfBlockStep s

/-- One transition of the machine (R170): RST in any phase, START in IDLE and DONE, a coding step in BETWEEN and WITHIN,
where START is ignored (R264), and otherwise nothing. -/
def transition (s : State) : Result :=
  if s.pins.rst then .next (applyReset s)
  else
    match s.phase with
    | .between => launchStep s.dropStart
    | .within => launchStep s.dropStart
    | .idle => if s.pins.start then .next (applyStart s) else .next s
    | .done => if s.pins.start then .next (applyStart s) else .next s

/-! Placing a code where the next step reads it. -/

/-- The bytes of a table word, then zeros. -/
def wordSource (nbits w : Nat) : List Byte := bytesOfWord (nbits / 8) w ++ List.replicate 8 0

/-- The width a word is run at when no launch is in progress: the one the host presents, or 8, the width of the
examples of 43_line_decoder.md (DESIGN CHOICE, log entry 9). -/
def loadWidth (s : State) : Nat := if s.pins.width = 0 then 8 else s.pins.width

/-- A launch is in progress: this one, or a new one from the START values (R263). -/
def State.inLaunch (s : State) : State :=
  if s.phase.coding then s else beginLaunch (loadWidth s) s.pins.invert [] s

/-- The place in a coding step where a code of a context is read. -/
def State.placeAt (ctx : CodeContext) (s : State) : State :=
  match ctx with
  | .mode => { s with reading := .mode }
  | .run c => { s with reading := if c = s.color then .firstRun 0 else .secondRun 0 0, phase := .within }
  | .endOfBlock => { s with reading := .endOfBlock, phase := .between }

/-- The state with a window on the word, at the place where its code is read (log entries 9 and 10). -/
def loadWord (s : State) (nbits w : Nat) : State :=
  let t : State :=
    { s.inLaunch with
        pins := { s.pins with start := false, rst := false }
        win := Window.construct (wordSource nbits w)
        status := { s.inLaunch.status with consumed := 0 } }
  match tableContext nbits w with
  | some ctx => t.placeAt ctx
  | none => t

end Sys2Proof.Machine
end

