-- ==== Sys2Proof/Machine/Step.lean ====
section
/-! DEFINITION. One step of the machine, and a state whose next step runs a given table word. -/

namespace Sys2Proof.Machine

/-- One step: one transition of R170. -/
def step (s : State) : Host.Outcome State Fault Refusal := transition s

/-- `s` with the instruction of a table word stored where `step` reads its next code. -/
def State.withFetchWord (s : State) (nbits w : Nat) : State := loadWord s nbits w

end Sys2Proof.Machine
end

