-- ==== Sys2Proof/Safety.lean ====
section
/-! DEFINITION. What the claims are said in: the stream as bits (R24, R66), the state of a window the rules keep (R22,
R23, R111, R121), the declarative reading of the reference-line search (R180), the end of a launch (R231, R232), and
the invariant of the machine. -/

namespace Sys2Proof.Machine

/-! The stream. -/

/-- The bits of a byte, the most significant first (R66). -/
def byteBits (b : Byte) : List Bool := (List.range 8).map fun j => b.getMsbD j

/-- The stream: every bit of the source in consumption order (R66). -/
def Window.sourceBits (w : Window) : List Bool := w.source.flatMap byteBits

/-- The part of the stream not yet consumed, from the stream position on (R24, R123). -/
def Window.streamBits (w : Window) : List Bool := w.sourceBits.drop w.position

/-- What every rule keeps of the Bit Window: the ranges (R21, R22), the refill done (R112), and the accumulator showing
the stream from its high-order end with zeros below the valid bits (R23, R111). -/
abbrev Window.wf (w : Window) : Prop :=
  w.emptyBits ≤ 32 ∧ w.sourcePos ≤ w.source.length ∧ w.valid ≤ 8 * w.sourcePos ∧
    (w.emptyBits < 8 ∨ w.sourcePos = w.source.length) ∧
    ∀ j < 32, w.buffer.getMsbD j = (decide (j < w.valid) && w.streamBits.getD j false)

/-- The other formulation of the refill (R120): the byte is ORed in without clearing its target bits. -/
def Window.refillUnmaskedFrom : Nat → Window → Window
  | 0, w => w
  | n + 1, w =>
    if 8 ≤ w.emptyBits then
      match w.source[w.sourcePos]? with
      | none => w
      | some b =>
        Window.refillUnmaskedFrom n
          { w with buffer := w.buffer ||| (b.setWidth 32 <<< (w.emptyBits - 8))
                   emptyBits := w.emptyBits - 8
                   sourcePos := w.sourcePos + 1 }
    else w

/-! The reference line. -/

/-- `R(x)` of R180 for `x ≥ 0`. -/
def State.refAt (s : State) (x : Nat) : Colour := s.ref.getD x .white

/-- `R(x - 1)` of R180; the imaginary pixel at -1 is WHITE (R14). -/
def State.refBefore (s : State) (x : Nat) : Colour := if x = 0 then .white else s.refAt (x - 1)

/-- `x` is a changing element of the reference line (R17). -/
abbrev State.changesAt (s : State) (x : Nat) : Prop := s.refAt x ≠ s.refBefore x

/-- `x` qualifies as b1: a transition to the colour opposite to the current one (R180). -/
abbrev State.opposesAt (s : State) (x : Nat) : Prop := s.changesAt x ∧ s.refAt x = s.color.opp

/-- `b` is b1: the first qualifying index from the search start, or the width when there is none (R180). -/
abbrev State.isB1 (s : State) (b : Nat) : Prop :=
  (b < s.width ∧ searchStart s.a0 ≤ b ∧ s.opposesAt b ∧ ∀ x < b, searchStart s.a0 ≤ x → ¬ s.opposesAt x) ∨
    (b = s.width ∧ ∀ x < s.width, searchStart s.a0 ≤ x → ¬ s.opposesAt x)

/-- `b` is b2 for this b1: the first transition after it, or the width when there is none (R180). -/
abbrev State.isB2 (s : State) (b1 b : Nat) : Prop :=
  (b < s.width ∧ b1 < b ∧ s.changesAt b ∧ ∀ x < b, b1 < x → ¬ s.changesAt x) ∨
    (b = s.width ∧ ∀ x < s.width, b1 < x → ¬ s.changesAt x)

/-- The VERTICAL codes with their offsets (R93, R151, R156). -/
def verticalCodes : List (Instr × Int) :=
  [(.v0, 0), (.vr1, 1), (.vr2, 2), (.vr3, 3), (.vl1, -1), (.vl2, -2), (.vl3, -3)]

/-! A coding step. -/

/-- A coding step may run: the machine is in a launch and at the top of a step (R171). -/
abbrev State.ready (s : State) : Prop := s.phase.coding = true ∧ s.reading = .mode

/-- The status after `n` more bits are consumed: only `CONSUMED` moves (R24, R35). -/
def State.statusAfter (n : Nat) (s : State) : Status := { s.status with consumed := (s.win.consume n).position }

/-- `s` after a launch ended there in the phase `atPhase` (R231, R232, R236). -/
def State.endedIn (error : Bool) (cause : Cause) (atPhase : Phase) (consumed : Nat) (s : State) : State :=
  { s with
      phase := .done
      reading := .mode
      status :=
        { busy := false, done := true, error := error, cause := cause, partialLine := decide (atPhase = .within),
          lines := s.lines, consumed := consumed } }

/-- The total of the pixels of a list of run codes (R92). -/
def pixelsOf (cfg : Config) (is : List Instr) : Nat := (is.map fun i => i.pixels cfg).sum

/-- The code-by-code execution of the rest of a HORIZONTAL step: steps of the machine while a run is being read. -/
def runCodesFrom : Nat → State → Result
  | 0, s => .next s
  | n + 1, s =>
    match s.reading with
    | .mode => .next s
    | .endOfBlock => .next s
    | .firstRun _ =>
      match step s with
      | .next t => runCodesFrom n t
      | .fault e => .fault e
      | .refused e => .refused e
    | .secondRun _ _ =>
      match step s with
      | .next t => runCodesFrom n t
      | .fault e => .fault e
      | .refused e => .refused e

/-! The invariant. -/

/-- The status record says what the machine is in (R35, R233, R236). -/
abbrev State.statusInv (s : State) : Prop :=
  s.status.busy = s.phase.coding ∧ s.status.done = decide (s.phase = .done) ∧ s.status.lines = s.lines ∧
    (s.status.cause = .none ↔ s.phase ≠ .done) ∧ s.status.error = decide (8 ≤ s.status.cause.code.toNat) ∧
    (s.phase ≠ .done → s.status.partialLine = false)

/-- The emitted lines stand in `OUT`, each byte one of the two pixel bytes (R64, R72). -/
abbrev State.outInv (s : State) : Prop :=
  s.out.wf ∧
    ∀ a < s.lines * s.width, s.out.read a = some s.cfg.pixelWhite ∨ s.out.read a = some s.cfg.pixelBlack

/-- The line stores during a launch: their sizes (R28, R29), every pixel left of `a0` written (R199), the position inside
the line (R25), and a line start at position 0 in white (R195, R263). -/
abbrev State.lineInv (s : State) : Prop :=
  1 ≤ s.width ∧ s.ref.length = s.width ∧ s.cur.length = s.width ∧ s.a0 < s.width ∧
    (∀ x < s.a0, s.cur.getD x none ≠ none) ∧ (s.phase = .between → s.a0 = 0 ∧ s.color = .white)

/-- The reference line is all white before the first line, and the last emitted line, uninverted, after it (R30, R198). -/
abbrev State.refInv (s : State) : Prop :=
  (s.lines = 0 → s.ref = List.replicate s.width .white) ∧
    (0 < s.lines → ∀ x < s.width, s.out.read ((s.lines - 1) * s.width + x) = (s.ref[x]?).map s.pixelByte)

/-- A run is read only after its mode code, and the end-of-block check waits only at a line start (R176, R195). -/
abbrev State.readingInv (s : State) : Prop :=
  (s.runColour?.isSome = true → s.phase = .within) ∧ (s.reading = .endOfBlock → s.phase = .between)

/-- The invariant of the machine. -/
abbrev State.inv (s : State) : Prop :=
  s.statusInv ∧ s.outInv ∧ withinBound s.lines s.cfg.maxLines = true ∧
    (s.phase.coding = false → s.reading = .mode) ∧
    (s.phase.coding = true →
      s.win.wf ∧ s.status.consumed = s.win.position ∧ s.lineInv ∧ s.refInv ∧ s.readingInv)

/-! Runs of the machine. -/

/-- The machine is not asked to launch or to reset. -/
abbrev State.quiet (s : State) : Prop := s.pins.rst = false ∧ s.pins.start = false

end Sys2Proof.Machine
end

