-- ==== Sys2Proof/Certificates/Slice0/Obligations.lean ====
section
/-! DEFINITION. The statements about the machine, from the numbered rules of the spec. -/

open Sys2Proof Sys2Proof.Machine

/-! The Bit Window. -/

/-- R113, R66: construction at START shows the source from its first bit, with the window filled. -/
def Obligations.ConstructShowsTheSource : Prop :=
  ∀ src : List Byte,
    (Window.construct src).wf ∧ (Window.construct src).source = src ∧ (Window.construct src).position = 0 ∧
      (Window.construct src).streamBits = src.flatMap byteBits ∧
      (Window.construct src).sourcePos = min 4 src.length ∧ (Window.construct src).valid = min 32 (8 * src.length) ∧
      (Window.construct src).hasRemaining = decide (src ≠ [])

/-- R115, R24, R123: consuming n backed bits drops n bits of the stream and adds n to the position. -/
def Obligations.ConsumeAdvancesTheStream : Prop :=
  ∀ (w : Window) (n : Nat), w.wf → 1 ≤ n → n ≤ w.valid →
    (w.consume n).wf ∧ (w.consume n).source = w.source ∧ (w.consume n).position = w.position + n ∧
      (w.consume n).streamBits = w.streamBits.drop n ∧ (w.consume n).remaining + n = w.remaining

/-- R121: while source bytes are unread after a refill, 25 bits are valid, so every code is backed by data. -/
def Obligations.UnreadSourceBacksEveryCode : Prop :=
  ∀ w : Window, w.refill.sourcePos < w.refill.source.length →
    25 ≤ w.refill.valid ∧ ∀ i : Instr, i.code.len ≤ w.refill.valid

/-- R66, R68, R111, R114: the first 25 bits of the lookahead are the stream's, zeros after its end; each narrower peek is
the high part of the wider one, and each gives the valid count. -/
def Obligations.LookaheadShowsTheStream : Prop :=
  ∀ w : Window, w.wf →
    (∀ j < 25, w.peek32.1.getMsbD j = w.streamBits.getD j false) ∧
      w.peek16.1 = (w.peek32.1 >>> 16).setWidth 16 ∧ w.peek8.1 = (w.peek16.1 >>> 8).setWidth 8 ∧
      w.peek32.2 = w.valid ∧ w.peek16.2 = w.valid ∧ w.peek8.2 = w.valid

/-- R119: in every state the rules can reach, HasRemaining says whether a bit is valid, and so whether a bit of the
stream is left. -/
def Obligations.HasRemainingMeansValidBits : Prop :=
  ∀ w : Window, w.wf → w.hasRemaining = decide (0 < w.valid) ∧ w.hasRemaining = !w.streamBits.isEmpty

/-- R120: where the bits below the valid ones are zero, the refill with and without clearing the target bits agree. -/
def Obligations.RefillMaskIsImmaterial : Prop :=
  ∀ w : Window, w.emptyBits ≤ 32 → (∀ j < 32, w.valid ≤ j → w.buffer.getMsbD j = false) →
    w.refill = w.refillUnmaskedFrom (w.emptyBits / 8)

/-! The codes. -/

/-- R151 (windows matched), R95, R157: the answer of the mode lookup on each of the 256 windows. -/
def Obligations.ModeWindowMap : Prop :=
  ∀ w : BitVec 8, modeMatch w =
    if w < 0x02 then none
    else if w < 0x04 then some .ext
    else if w < 0x06 then some .vl3
    else if w < 0x08 then some .vr3
    else if w < 0x0C then some .vl2
    else if w < 0x10 then some .vr2
    else if w < 0x20 then some .p
    else if w < 0x40 then some .h
    else if w < 0x60 then some .vl1
    else if w < 0x80 then some .vr1
    else some .v0

/-- R96: the windows that match no run entry are those below 0x0100, for either colour, and such a window is a corrupt
run code unless no bit is valid. -/
def Obligations.RunWindowsUnmatched : Prop :=
  ∀ (c : Colour) (w : BitVec 16),
    (runMatch w c = none ↔ w < 0x0100) ∧
      ∀ v : Window, v.peek16.1 = w → w < 0x0100 →
        nextRunCode c v = .error (if v.valid = 0 then .unexpectedEnd else .corruptRunCode)

/-- R87: each list is prefix-free, so one entry of a list at most matches a window, and the scan order changes no
result. -/
def Obligations.CodesArePrefixFree : Prop :=
  (∀ (ctx : CodeContext) (i j : Instr), i.wellFormed ctx = true → j.wellFormed ctx = true → encode i <+: encode j → i = j) ∧
    (∀ (c : Colour) (w : BitVec 16), ∀ i ∈ runList c, ∀ j ∈ runList c,
      i.code.matchesIn 16 w = true → j.code.matchesIn 16 w = true → i = j) ∧
    (∀ w : BitVec 8, ∀ i ∈ modeList, ∀ j ∈ modeList,
      i.code.matchesIn 8 w = true → j.code.matchesIn 8 w = true → i = j) ∧
    (∀ (c : Colour) (l : List Instr) (w : BitVec 16), l.Perm (runList c) →
      l.find? (fun i => i.code.matchesIn 16 w) = runMatch w c) ∧
    (∀ (l : List Instr) (w : BitVec 8), l.Perm modeList →
      l.find? (fun i => i.code.matchesIn 8 w) = modeMatch w)

/-- R91, R86, R138: a window that begins with the bits of a code of its context decodes to that code, whatever bits
follow. -/
def Obligations.DecodeEncodeAgree : Prop :=
  ∀ (ctx : CodeContext) (i : Instr) (w : Acc), i.wellFormed ctx = true →
    (∀ j < i.code.len, w.getMsbD j = (encode i).getD j false) → decodeWindow ctx w = .ok i

/-- R86, R91: what decodes to a code is a code of the context, and the window begins with its bits. -/
def Obligations.DecodedCodeStandsInTheWindow : Prop :=
  ∀ (ctx : CodeContext) (i : Instr) (w : Acc), decodeWindow ctx w = .ok i →
    i.wellFormed ctx = true ∧ ∀ j < i.code.len, w.getMsbD j = (encode i).getD j false

/-- R104: packing a bit string gives its bits in stream order, the last byte's unused low bits 0, in as many bytes as it
takes. -/
def Obligations.PackedBitsAreTheStream : Prop :=
  ∀ bs : List Bool,
    (pack bs).length = (bs.length + 7) / 8 ∧
      (∀ j < bs.length, ∃ b, (pack bs)[j / 8]? = some b ∧ b.getLsbD (7 - j % 8) = bs.getD j false) ∧
      (pack bs).flatMap byteBits = bs ++ List.replicate (8 * ((bs.length + 7) / 8) - bs.length) false

/-- R141: each of the 208 entries, as an isolated code at the top of a zero-padded window, is found. -/
def Obligations.IsolatedRunCodesDecode : Prop :=
  (runList .white).length + (runList .black).length = 208 ∧
    ∀ c : Colour, ∀ i ∈ runList c, runMatch (i.code.value 16) c = some i

/-- R131, R132: the pixels of every run code, and which codes end a run. -/
def Obligations.RunCodePixels : Prop :=
  ∀ cfg : Config,
    whiteTerminating.map (fun i => (i.pixels cfg, i.terminates)) = (List.range 64).map (fun n => (n, true)) ∧
      blackTerminating.map (fun i => (i.pixels cfg, i.terminates)) = (List.range 64).map (fun n => (n, true)) ∧
      whiteMakeUp.map (fun i => (i.pixels cfg, i.terminates)) = (List.range 27).map (fun n => ((n + 1) * 64, false)) ∧
      blackMakeUp.map (fun i => (i.pixels cfg, i.terminates)) = (List.range 27).map (fun n => ((n + 1) * 64, false)) ∧
      extendedMakeUp.map (fun i => (i.pixels cfg, i.terminates)) =
        (List.range 13).map (fun n => (1792 + (n + cfg.extOffset.val) * 64, false))

/-- R101, R94: the canonical expansion is a run of its colour, of its length, and takes the largest make-up code first. -/
def Obligations.CanonicalRunIsARun : Prop :=
  ∀ (c : Colour) (n : Nat),
    runWellFormed c (canonicalRun c n) = true ∧ pixelsOf Config.standard (canonicalRun c n) = n ∧
      (64 ≤ n → ∃ m rest, canonicalRun c n = m :: rest ∧ m.isMakeUp c = true ∧ m.pixels Config.standard ≤ n ∧
        ∀ i : Instr, i.isMakeUp c = true → i.pixels Config.standard ≤ n →
          i.pixels Config.standard ≤ m.pixels Config.standard)

/-- R151, R133 to R137, R88: words written out from the spec's tables, with other bits after them, decode to the codes
they stand for. -/
def Obligations.SpecWordsDecode : Prop :=
  decode .mode [0x2F, 0x80] = .ok .h ∧ decode .mode [0x4F] = .ok .vl1 ∧ decode .mode [0x08] = .ok .vl2 ∧
    decode .mode [0x1F] = .ok .p ∧ decode .mode [0xFF] = .ok .v0 ∧ decode .mode [0x03] = .ok .ext ∧
    decode .mode [0x01] = .error .noModeCode ∧
    decode (.run .white) [0x7F] = .ok .wt2 ∧ decode (.run .white) [0x4D, 0x80] = .ok .wm1728 ∧
    decode (.run .black) [0xC0] = .ok .bt2 ∧ decode (.run .black) [0x03, 0x28] = .ok .bm1728 ∧
    decode (.run .white) [0x01, 0xF0] = .ok .xm2560 ∧ decode (.run .black) [0x01, 0x00] = .ok .xm1792 ∧
    decode (.run .black) [0x00, 0xFF] = .error .noRunCode ∧
    decode .endOfBlock [0x00, 0x10, 0x01, 0xFF] = .ok .eob ∧ decode .endOfBlock [0x00, 0x10, 0x00] = .error .noEndOfBlock

/-! A step and its code. -/

/-- R171, R143, R197: where the next bits decode, in the context the machine is reading in, to a code, the step is the
code's meaning, at the state with an ignored START pulse taken down. -/
def Obligations.StepRunsTheDecodedInstruction : Prop :=
  ∀ (s : State) (i : Instr), s.phase.coding = true → s.pins.rst = false →
    (s.reading = .mode → s.win.hasRemaining = true → s.win.buffer ≠ 0 → decodeWindow .mode s.win.buffer = .ok i →
      step s = exec i s.dropStart) ∧
    (∀ c, s.runColour? = some c → 0 < s.win.valid → decodeWindow (.run c) s.win.buffer = .ok i →
      step s = exec i s.dropStart) ∧
    (s.reading = .endOfBlock → s.win.hasRemaining = true → decodeWindow .endOfBlock s.win.buffer = .ok i →
      step s = exec i s.dropStart)

/-- R172 to R174, R143, R195, R235: where no code can be read the launch ends, with the cause of the first check that
applies and nothing consumed; where no end-of-block pattern stands after a line the decoder goes on to the next step. -/
def Obligations.ChecksBeforeACode : Prop :=
  ∀ s : State, s.phase.coding = true → s.pins.rst = false →
    (s.reading = .mode →
      (s.win.hasRemaining = false →
        step s = .next (s.dropStart.endedIn false .endOfInput s.phase s.status.consumed)) ∧
      (s.win.hasRemaining = true → s.win.buffer = 0 →
        step s = .next (s.dropStart.endedIn false .zeroLookahead s.phase s.status.consumed)) ∧
      (s.win.hasRemaining = true → s.win.buffer ≠ 0 → s.win.buffer < 0x02000000 →
        step s = .next (s.dropStart.endedIn false .unrecognizedMode s.phase s.status.consumed))) ∧
    (∀ c, s.runColour? = some c →
      (s.win.valid = 0 → step s = .next (s.dropStart.endedIn true .unexpectedEnd s.phase s.status.consumed)) ∧
      (0 < s.win.valid → s.win.buffer < 0x01000000 →
        step s = .next (s.dropStart.endedIn true .corruptRunCode s.phase s.status.consumed))) ∧
    (s.reading = .endOfBlock → s.win.buffer.extractLsb' 8 24 ≠ 0x001001 →
      step s = .next { s.dropStart with reading := .mode })

/-- R175: a mode code longer than the valid bits ends the launch with UNEXPECTED_END and consumes nothing, which can
happen only at the end of the source. -/
def Obligations.ModeCodeNotBacked : Prop :=
  ∀ (s : State) (i : Instr), s.ready → i.wellFormed .mode = true → i ≠ .ext → s.win.valid < i.code.len →
    exec i s = .next (s.endedIn true .unexpectedEnd s.phase s.status.consumed) ∧
      (s.win.wf → s.win.sourcePos = s.win.source.length)

/-! The reference line and the coding line. -/

/-- R180: FindB finds b1 and b2, the missing ones at the width; FIRST_ONLY gives the same b1. -/
def Obligations.FindBIsTheSearch : Prop :=
  ∀ s : State, s.ref.length = s.width → s.a0 < s.width →
    s.isB1 (findB1 s) ∧ (findB s).1 = findB1 s ∧ s.isB2 (findB s).1 (findB s).2 ∧
      searchStart s.a0 ≤ (findB s).1 ∧ (findB s).1 ≤ s.width ∧
      (((findB s).1 < (findB s).2 ∧ (findB s).2 ≤ s.width) ∨ ((findB s).1 = s.width ∧ (findB s).2 = s.width)) ∧
      (∀ b, s.isB1 b → b = findB1 s)

/-- R181: Fill writes its colour to every pixel of the range, clipped at the width, and changes nothing else. -/
def Obligations.FillSetsTheRange : Prop :=
  ∀ (s : State) (lo hi : Nat) (c : Colour),
    s.fill lo hi c = { s with cur := (s.fill lo hi c).cur } ∧
      (∀ x, (s.fill lo hi c).cur[x]? =
        if lo ≤ x ∧ x < min hi s.width then (s.cur[x]?).map (fun _ => some c) else s.cur[x]?) ∧
      (min hi s.width ≤ lo → s.fill lo hi c = s)

/-! The mode codes. -/

/-- R185: PASS with b2 inside the line fills up to b2 in the current colour and moves there; the colour and everything
else stay. -/
def Obligations.PassReachesB2 : Prop :=
  ∀ (s : State) (b1 b2 : Nat), s.ready → 4 ≤ s.win.valid → s.ref.length = s.width → s.isB1 b1 → s.isB2 b1 b2 →
    b2 < s.width →
    ∃ t : State, exec .p s = .next t ∧
      t = { s with win := s.win.consume 4, status := s.statusAfter 4, phase := .within, a0 := b2, cur := t.cur } ∧
      ∀ x, t.cur[x]? = if s.a0 ≤ x ∧ x < b2 then (s.cur[x]?).map (fun _ => some s.color) else s.cur[x]?

/-- R187 to R193: a VERTICAL code with its target between a0 and the line end fills up to the target in the current
colour, moves there and toggles the colour; everything else stays. -/
def Obligations.VerticalReachesItsTarget : Prop :=
  ∀ (s : State) (i : Instr) (k : Int) (b1 : Nat), (i, k) ∈ verticalCodes → s.ready → i.code.len ≤ s.win.valid →
    s.ref.length = s.width → s.isB1 b1 → (s.a0 : Int) ≤ b1 + k → (b1 : Int) + k < s.width →
    ∃ t : State, exec i s = .next t ∧
      t = { s with win := s.win.consume i.code.len, status := s.statusAfter i.code.len, phase := .within,
                   a0 := ((b1 : Int) + k).toNat, color := s.color.opp, cur := t.cur } ∧
      ∀ x, t.cur[x]? =
        if s.a0 ≤ x ∧ (x : Int) < b1 + k then (s.cur[x]?).map (fun _ => some s.color) else s.cur[x]?

/-- R187 to R193, R234: a target left of a0 ends the launch with VERTICAL_RANGE, the code consumed. A code with an offset
of 0 or more never does, and VL1 only at a0 = 0 with b1 = 0. -/
def Obligations.VerticalLeftOfA0EndsTheLaunch : Prop :=
  ∀ (s : State) (i : Instr) (k : Int) (b1 : Nat), (i, k) ∈ verticalCodes → s.ready → i.code.len ≤ s.win.valid →
    s.ref.length = s.width → s.a0 < s.width → s.isB1 b1 →
    ((b1 : Int) + k < s.a0 →
      exec i s = .next (({ s with win := s.win.consume i.code.len } : State).endedIn true .verticalRange .within
        (s.win.consume i.code.len).position)) ∧
      (0 ≤ k → (s.a0 : Int) ≤ b1 + k) ∧ (k = -1 → (b1 : Int) + k < s.a0 → s.a0 = 0 ∧ b1 = 0)

/-- R186, R143, R94: HORIZONTAL whose two runs stand next in the stream and end inside the line writes the first run in
the current colour and the second in the other, moves by both, keeps the colour under KEEP and toggles it under FLIP,
and consumes exactly its codes; everything else stays. -/
def Obligations.HorizontalReadsTwoRuns : Prop :=
  ∀ (s : State) (run1 run2 : List Instr) (rest : List Bool), s.ready → s.win.wf →
    runWellFormed s.color run1 = true → runWellFormed s.color.opp run2 = true →
    s.win.streamBits = encode .h ++ assemble run1 ++ assemble run2 ++ rest →
    s.a0 + pixelsOf s.cfg run1 + pixelsOf s.cfg run2 < s.width →
    ∃ t : State, exec .h s = .next t ∧
      t.win.wf ∧ t.win.source = s.win.source ∧ t.win.streamBits = rest ∧
      t.win.position = s.win.position + 3 + (assemble run1).length + (assemble run2).length ∧
      t = { s with win := t.win, status := { s.status with consumed := t.win.position }, phase := .within,
                   a0 := s.a0 + pixelsOf s.cfg run1 + pixelsOf s.cfg run2,
                   color := if s.cfg.hColor = .keep then s.color else s.color.opp, cur := t.cur } ∧
      ∀ x, t.cur[x]? =
        if s.a0 ≤ x ∧ x < s.a0 + pixelsOf s.cfg run1 then (s.cur[x]?).map (fun _ => some s.color)
        else if s.a0 + pixelsOf s.cfg run1 ≤ x ∧ x < s.a0 + pixelsOf s.cfg run1 + pixelsOf s.cfg run2 then
          (s.cur[x]?).map (fun _ => some s.color.opp)
        else s.cur[x]?

/-- R143, R144, R234: a run of HORIZONTAL that meets the end of the stream, bits that match no code, or a code longer
than the bits left ends the launch; the codes read before it stay consumed and no pixel is written. -/
def Obligations.HorizontalRunFaults : Prop :=
  ∀ (s : State) (pre : List Instr) (c : Colour) (rest : List Bool), s.ready → s.win.wf →
    ((c = s.color ∧ ∀ i ∈ pre, i.isMakeUp s.color = true) ∨
      (c = s.color.opp ∧ ∃ run1 ms, runWellFormed s.color run1 = true ∧ (∀ i ∈ ms, i.isMakeUp s.color.opp = true) ∧
        pre = run1 ++ ms)) →
    s.win.streamBits = encode .h ++ assemble pre ++ rest →
    ∃ w : Window, w.source = s.win.source ∧ w.streamBits = rest ∧
      w.position = s.win.position + 3 + (assemble pre).length ∧
      (rest = [] →
        exec .h s = .next (({ s with win := w } : State).endedIn true .unexpectedEnd .within w.position)) ∧
      (rest ≠ [] → (∀ j < 8, rest.getD j false = false) →
        exec .h s = .next (({ s with win := w } : State).endedIn true .corruptRunCode .within w.position)) ∧
      (∀ i : Instr, rest ≠ [] → i.wellFormed (.run c) = true → rest.length < i.code.len →
        (∀ j < i.code.len, (encode i).getD j false = rest.getD j false) →
        exec .h s = .next (({ s with win := w } : State).endedIn true .unexpectedEnd .within w.position))

/-! Line completion. -/

/-- R195 to R198, R72: a PASS or VERTICAL code whose target is at or past the width completes the line: the line's bytes
stand in OUT and no other byte changes, the line becomes the reference, the decoder is at a new line start in white, and
the launch ends exactly when the end-of-block pattern stands next, which is not consumed. -/
def Obligations.PassAndVerticalCompleteTheLine : Prop :=
  ∀ (s : State) (i : Instr) (b1 target : Nat) (rest : List Bool), s.inv → s.ready → s.isB1 b1 →
    ((i = .p ∧ s.isB2 b1 target) ∨ ∃ k, (i, k) ∈ verticalCodes ∧ (target : Int) = b1 + k) →
    s.width ≤ target → s.win.streamBits = encode i ++ rest → s.cfg.maxLines ≠ some s.lines →
    ∃ (t : State) (px : List Colour), exec i s = .next t ∧ px.length = s.width ∧
      (∀ x < s.width, (px.map some)[x]? = if s.a0 ≤ x then some (some s.color) else s.cur[x]?) ∧
      t.win.streamBits = rest ∧ t.win.position = s.win.position + i.code.len ∧
      t = { s with win := t.win, out := t.out, ref := px, cur := List.replicate s.width none, a0 := 0, color := .white,
                   lines := s.lines + 1, phase := t.phase, status := t.status } ∧
      (∀ a, t.out.read a =
        if s.lines * s.width ≤ a ∧ a < (s.lines + 1) * s.width then
          (px[a - s.lines * s.width]?).map s.pixelByte
        else s.out.read a) ∧
      t.phase = (if encode .eob <+: rest then .done else .between) ∧
      t.status =
        (if encode .eob <+: rest then
          { busy := false, done := true, error := false, cause := .endOfBlock, partialLine := false,
            lines := s.lines + 1, consumed := t.win.position }
        else { s.status with lines := s.lines + 1, consumed := t.win.position })

/-- R186, R195 to R198: the same for a HORIZONTAL step whose runs reach or pass the width; the excess is discarded. -/
def Obligations.HorizontalCompletesTheLine : Prop :=
  ∀ (s : State) (run1 run2 : List Instr) (rest : List Bool), s.inv → s.ready →
    runWellFormed s.color run1 = true → runWellFormed s.color.opp run2 = true →
    s.win.streamBits = encode .h ++ assemble run1 ++ assemble run2 ++ rest →
    s.width ≤ s.a0 + pixelsOf s.cfg run1 + pixelsOf s.cfg run2 → s.cfg.maxLines ≠ some s.lines →
    ∃ (t : State) (px : List Colour), exec .h s = .next t ∧ px.length = s.width ∧
      (∀ x < s.width, (px.map some)[x]? =
        if x < s.a0 then s.cur[x]?
        else if x < s.a0 + pixelsOf s.cfg run1 then some (some s.color) else some (some s.color.opp)) ∧
      t.win.streamBits = rest ∧
      t.win.position = s.win.position + 3 + (assemble run1).length + (assemble run2).length ∧
      t = { s with win := t.win, out := t.out, ref := px, cur := List.replicate s.width none, a0 := 0, color := .white,
                   lines := s.lines + 1, phase := t.phase, status := t.status } ∧
      (∀ a, t.out.read a =
        if s.lines * s.width ≤ a ∧ a < (s.lines + 1) * s.width then
          (px[a - s.lines * s.width]?).map s.pixelByte
        else s.out.read a) ∧
      t.phase = (if encode .eob <+: rest then .done else .between) ∧
      t.status =
        (if encode .eob <+: rest then
          { busy := false, done := true, error := false, cause := .endOfBlock, partialLine := false,
            lines := s.lines + 1, consumed := t.win.position }
        else { s.status with lines := s.lines + 1, consumed := t.win.position })

/-- R244: with P_MAX_LINES bounded, a line completion that finds `lines` at the bound ends the launch with LINE_LIMIT and
writes nothing, so no step writes at or above P_MAX_LINES times the width; with it unbounded no step raises LINE_LIMIT. -/
def Obligations.LineLimitBoundsTheOutput : Prop :=
  (∀ s : State, s.width ≤ s.a0 → s.cfg.maxLines = some s.lines →
    finishStep s = .next (s.endedIn true .lineLimit s.phase s.status.consumed)) ∧
  (∀ (s t : State) (k : Nat), s.inv → s.cfg.maxLines = some k → step s = .next t →
    t.lines ≤ k ∧ ∀ a, k * s.width ≤ a → t.out.read a = s.out.read a) ∧
  (∀ s t : State, s.cfg.maxLines = none → step s = .next t → s.status.cause ≠ .lineLimit →
    t.status.cause ≠ .lineLimit)

/-- R196: the byte of a pixel, inverted first when `invert` is 1. -/
def Obligations.EmittedByteIsThePixel : Prop :=
  ∀ s : State,
    s.pixelByte .white = (if s.invert then s.cfg.pixelBlack else s.cfg.pixelWhite) ∧
      s.pixelByte .black = (if s.invert then s.cfg.pixelWhite else s.cfg.pixelBlack)

/-- R155, R194: EXT stops the launch as an unrecognized mode and consumes nothing, however many bits are valid. -/
def Obligations.ExtensionCodeStops : Prop :=
  ∀ s : State, s.ready →
    exec .ext s = .next (s.endedIn false .unrecognizedMode s.phase s.status.consumed)

/-- R197, R102: the end-of-block pattern right after a line stops the launch and is not consumed. -/
def Obligations.EndOfBlockStops : Prop :=
  ∀ s : State, s.phase.coding = true → s.reading = .endOfBlock →
    exec .eob s = .next (s.endedIn false .endOfBlock s.phase s.status.consumed)

/-! The run codes. -/

/-- R143, R132: a make-up code adds its pixels to the run being read and does not end it; nothing else but the window
and CONSUMED changes. -/
def Obligations.MakeUpCodeExtendsItsRun : Prop :=
  ∀ (s : State) (i : Instr), i ∈ whiteMakeUp ++ blackMakeUp ++ extendedMakeUp → s.phase.coding = true →
    i.code.len ≤ s.win.valid →
    (∀ total, s.reading = .firstRun total → i.wellFormed (.run s.color) = true →
      exec i s = .next { s with win := s.win.consume i.code.len, status := s.statusAfter i.code.len,
                                reading := .firstRun (total + i.pixels s.cfg) }) ∧
    (∀ r1 total, s.reading = .secondRun r1 total → i.wellFormed (.run s.color.opp) = true →
      exec i s = .next { s with win := s.win.consume i.code.len, status := s.statusAfter i.code.len,
                                reading := .secondRun r1 (total + i.pixels s.cfg) })

/-- R143, R186: a terminating code of the current colour ends the first run, and the second run, of the other colour, is
read next. -/
def Obligations.TerminatingCodeEndsTheFirstRun : Prop :=
  ∀ (s : State) (i : Instr) (total : Nat), i ∈ whiteTerminating ++ blackTerminating → s.phase.coding = true →
    s.reading = .firstRun total → i.wellFormed (.run s.color) = true → i.code.len ≤ s.win.valid →
    exec i s = .next { s with win := s.win.consume i.code.len, status := s.statusAfter i.code.len,
                              reading := .secondRun (total + i.pixels s.cfg) 0 }

/-- R143, R186: a terminating code of the other colour ends the second run and with it the HORIZONTAL step: both runs
are written and the position moves by both. -/
def Obligations.TerminatingCodeEndsTheSecondRun : Prop :=
  ∀ (s : State) (i : Instr) (r1 total : Nat), i ∈ whiteTerminating ++ blackTerminating → s.phase.coding = true →
    s.reading = .secondRun r1 total → i.wellFormed (.run s.color.opp) = true → i.code.len ≤ s.win.valid →
    s.a0 + r1 + (total + i.pixels s.cfg) < s.width →
    ∃ t : State, exec i s = .next t ∧
      t = { s with win := s.win.consume i.code.len, status := s.statusAfter i.code.len, reading := .mode,
                   a0 := s.a0 + r1 + (total + i.pixels s.cfg),
                   color := if s.cfg.hColor = .keep then s.color else s.color.opp, cur := t.cur } ∧
      ∀ x, t.cur[x]? =
        if s.a0 ≤ x ∧ x < s.a0 + r1 then (s.cur[x]?).map (fun _ => some s.color)
        else if s.a0 + r1 ≤ x ∧ x < s.a0 + r1 + (total + i.pixels s.cfg) then
          (s.cur[x]?).map (fun _ => some s.color.opp)
        else s.cur[x]?

/-- R143: a run code longer than the valid bits ends the launch with UNEXPECTED_END and is not consumed. -/
def Obligations.RunCodeNotBacked : Prop :=
  ∀ (s : State) (i : Instr) (c : Colour), s.phase.coding = true → s.runColour? = some c →
    i.wellFormed (.run c) = true → s.win.valid < i.code.len →
    exec i s = .next (s.endedIn true .unexpectedEnd s.phase s.status.consumed)

/-- R8, R34, R171, R186: the atomic HORIZONTAL step is what its codes do one after the other: the mode code, then steps
that read one run code each until no run is being read. -/
def Obligations.CodeByCodeIsTheCodingStep : Prop :=
  ∀ (s : State) (n : Nat), s.ready → s.quiet → s.win.wf → 3 ≤ s.win.valid → s.win.remaining ≤ n →
    runCodesFrom n { consumeMode .h s with reading := .firstRun 0 } = exec .h s

/-! Launch and reset. -/

/-- R262, R263: START in IDLE or DONE with a valid configuration gives the START values; OUT and the build stay. -/
def Obligations.StartSetsTheStartValues : Prop :=
  ∀ s : State, s.phase = .idle ∨ s.phase = .done → s.pins.rst = false → s.pins.start = true →
    1 ≤ s.pins.width → withinBound s.pins.width s.cfg.maxWidth = true →
    withinBound s.pins.src.length s.cfg.maxSrc = true →
    step s = .next
      { cfg := s.cfg
        pins := { s.pins with start := false }
        win := Window.construct s.pins.src
        a0 := 0
        color := .white
        cur := List.replicate s.pins.width none
        ref := List.replicate s.pins.width .white
        lines := 0
        phase := .between
        width := s.pins.width
        invert := s.pins.invert
        reading := .mode
        status :=
          { busy := true, done := false, error := false, cause := .none, partialLine := false, lines := 0, consumed := 0 }
        out := s.out }

/-- R243: START with a width of 0 or above P_MAX_WIDTH, or with more source bytes than P_MAX_SRC, goes straight to DONE
with CONFIG_INVALID: no window is constructed, and OUT is unwritten. -/
def Obligations.InvalidConfigurationFaults : Prop :=
  ∀ s : State, s.phase = .idle ∨ s.phase = .done → s.pins.rst = false → s.pins.start = true →
    (s.pins.width = 0 ∨ withinBound s.pins.width s.cfg.maxWidth = false ∨
      withinBound s.pins.src.length s.cfg.maxSrc = false) →
    ∃ t : State, step s = .next t ∧ t.phase = .done ∧ t.win = s.win ∧ t.out = s.out ∧
      t.status =
        { busy := false, done := true, error := true, cause := .configInvalid, partialLine := false, lines := 0,
          consumed := 0 }

/-- R264, R268: while the core is busy, a START pulse and any change of the presented WIDTH and INVERT change nothing of
the step but the pins themselves. SRC stays as it is: R63 forbids to change it then, and R267 gives any value. -/
def Obligations.StartWhileBusyIsIgnored : Prop :=
  ∀ (s : State) (p : Pins), s.phase.coding = true → s.pins.rst = false → p.rst = false → p.src = s.pins.src →
    (∀ t, step s = .next t → step { s with pins := p } = .next { t with pins := { p with start := false } }) ∧
      (∀ e, step s = .fault e → step { s with pins := p } = .fault e)

/-- R260: RST in any phase gives the reset values the spec states, and OUT keeps what was written. -/
def Obligations.ResetInAnyPhase : Prop :=
  ∀ s : State, s.pins.rst = true →
    ∃ t : State, step s = .next t ∧ t.phase = .idle ∧ t.lines = 0 ∧ t.out = s.out ∧ t.cfg = s.cfg ∧
      t.status =
        { busy := false, done := false, error := false, cause := .none, partialLine := false, lines := 0, consumed := 0 }

/-- R261: the values the spec states for reset, at power-up. -/
def Obligations.ResetStateValues : Prop :=
  State.reset.phase = .idle ∧ State.reset.lines = 0 ∧
    State.reset.status =
      { busy := false, done := false, error := false, cause := .none, partialLine := false, lines := 0, consumed := 0 } ∧
    State.reset.status.cause.code = 0 ∧ State.reset.out = []

/-- R170, R238, R239: in IDLE and in DONE nothing happens until START or RST. -/
def Obligations.NothingHappensWithoutStart : Prop :=
  ∀ s : State, s.phase = .idle ∨ s.phase = .done → s.quiet → step s = .next s

/-! The whole machine. -/

/-- The invariant holds after reset. -/
def Obligations.InvariantAtReset : Prop := State.reset.inv

/-- R22, R23, R25, R28 to R30, R35, R64, R199, R233, R236: every step keeps the invariant, from every state that has it. -/
def Obligations.StepKeepsTheInvariant : Prop :=
  ∀ s t : State, s.inv → step s = .next t → t.inv

/-- R170, R199, R28: from a state that has the invariant the machine always steps on: no unwritten pixel is ever read, and
no code is run where its table is not read. -/
def Obligations.InvariantStatesStepOn : Prop :=
  ∀ s : State, s.inv → ∃ t, step s = .next t

/-- R200, R24: every coding step ends the launch or consumes at least a bit, and never past the end of the stream. -/
def Obligations.EveryStepConsumesOrEnds : Prop :=
  ∀ s t : State, s.inv → s.ready → s.pins.rst = false → step s = .next t →
    t.phase = .done ∨
      (t.phase.coding = true ∧ s.win.position < t.win.position ∧ t.win.position ≤ 8 * s.win.source.length)

/-- R200: a launch reaches DONE after at most one coding step more than there are bits left. -/
def Obligations.LaunchReachesDone : Prop :=
  ∀ s : State, s.inv → s.ready → s.pins.rst = false →
    ∃ k ≤ s.win.remaining + 1, ∃ t : State, core.run k s = .next t ∧ t.phase = .done

/-- R202: two launches that differ only in INVERT have the same status, and every emitted byte of the one is the other
colour's byte of the other. -/
def Obligations.PolarityLaw : Prop :=
  ∀ (s t : State) (k : Nat), s.phase = .idle ∨ s.phase = .done → s.pins.rst = false → s.pins.start = true →
    core.run (k + 1) s = .next t →
    ∃ t' : State, core.run (k + 1) { s with pins := { s.pins with invert := !s.pins.invert } } = .next t' ∧
      t'.status = t.status ∧ t'.lines = t.lines ∧
      ∀ a < t.status.lines * t.width,
        (t.out.read a = some s.cfg.pixelWhite ∧ t'.out.read a = some s.cfg.pixelBlack) ∨
          (t.out.read a = some s.cfg.pixelBlack ∧ t'.out.read a = some s.cfg.pixelWhite)

/-- R201, R238: a launch depends only on the build and on what is presented at START: whatever earlier launches left,
the status and the emitted lines are the same. -/
def Obligations.RelaunchIsFresh : Prop :=
  ∀ (s s' t : State) (k : Nat), s.phase = .idle ∨ s.phase = .done → s'.phase = .idle ∨ s'.phase = .done →
    s.pins.rst = false → s.pins.start = true → s'.pins = s.pins → s'.cfg = s.cfg →
    core.run (k + 1) s = .next t →
    ∃ t' : State, core.run (k + 1) s' = .next t' ∧ t'.status = t.status ∧
      ∀ a < t.status.lines * t.width, t'.out.read a = t.out.read a

/-- R32, R33, R37, R63, R74: no step writes the build's parameters, and during a launch no step writes the latched
source, width or polarity. -/
def Obligations.LatchedValuesStayConstant : Prop :=
  ∀ s t : State, step s = .next t →
    t.cfg = s.cfg ∧
      (s.phase.coding = true → s.pins.rst = false →
        t.win.source = s.win.source ∧ t.width = s.width ∧ t.invert = s.invert)

/-- R64, R70, R72: a step writes OUT only when it emits the next line, and then only that line's bytes; RST, START and an
idle core leave OUT alone. -/
def Obligations.OutputIsWriteOnce : Prop :=
  ∀ s t : State, step s = .next t →
    (s.phase.coding = false ∨ s.pins.rst = true → t.out = s.out) ∧
      (s.phase.coding = true → s.pins.rst = false →
        (t.lines = s.lines ∧ t.out = s.out) ∨
          (t.lines = s.lines + 1 ∧
            (∀ a, a < s.lines * s.width ∨ (s.lines + 1) * s.width ≤ a → t.out.read a = s.out.read a) ∧
            ∀ a, s.lines * s.width ≤ a → a < (s.lines + 1) * s.width →
              t.out.read a = some s.cfg.pixelWhite ∨ t.out.read a = some s.cfg.pixelBlack))

/-- R205: P_H_COLOR acts only when an H step ends inside the line: an H step that completes a line gives the same under
KEEP and FLIP. -/
def Obligations.ColourParameterActsOnlyMidLine : Prop :=
  ∀ (s t : State) (v : HColor), s.ready → exec .h s = .next t → t.lines = s.lines + 1 →
    exec .h { s with cfg := { s.cfg with hColor := v } } = .next { t with cfg := { s.cfg with hColor := v } }

/-- R233: the cause codes, ERROR exactly from code 8 on, and no reserved code. -/
def Obligations.CauseCodes : Prop :=
  (∀ c : Cause, c.code.toNat ∈ [0, 1, 2, 3, 4, 8, 9, 10, 11, 12]) ∧
    (∀ c d : Cause, c.code = d.code → c = d) ∧
    ∀ s : State, s.inv → (s.status.error = true ↔ 8 ≤ s.status.cause.code.toNat)

/-- R63, R266, R268: a host move changes only the pins; writing SRC while the core is busy is refused. -/
def Obligations.HostMovesChangeOnlyPins : Prop :=
  (∀ (m : HostMove) (s t : State), hostMove m s = .next t → t = { s with pins := t.pins }) ∧
    (∀ (s : State) (src : List Byte), s.phase.coding = true →
      hostMove (.setSource src) s = .refused .sourceWriteWhileBusy) ∧
    (∀ (s : State) (src : List Byte), s.phase.coding = false →
      hostMove (.setSource src) s = .next { s with pins := { s.pins with src := src } }) ∧
    (∀ s : State, hostMove .pulseStart s = .next { s with pins := { s.pins with start := true } }) ∧
    (∀ s : State, hostMove .assertReset s = .next { s with pins := { s.pins with rst := true } }) ∧
    (∀ (s : State) (w : Nat), hostMove (.setWidth w) s = .next { s with pins := { s.pins with width := w } }) ∧
    (∀ (s : State) (v : Bool), hostMove (.setInvert v) s = .next { s with pins := { s.pins with invert := v } })

/-- R41, R72, R274: while the core is busy the host reads every byte of the emitted lines, each a pixel byte. That a read
at or above LINES * width answers no value is the model's own choice (DESIGN CHOICE, log entry 16): R274 and I9 say that
such a byte has any value. -/
def Obligations.HostReadsEmittedLines : Prop :=
  ∀ (s : State) (a : Nat), s.inv → s.phase.coding = true →
    (a < s.status.lines * s.width →
      hostRead a s = some s.cfg.pixelWhite ∨ hostRead a s = some s.cfg.pixelBlack) ∧
      (s.status.lines * s.width ≤ a → hostRead a s = none)

/-- R8, R34, R171: a coding step is atomic: a step from the top of a coding step never leaves the machine inside one. -/
def Obligations.CodingStepIsAtomic : Prop :=
  ∀ s t : State, s.reading = .mode → step s = .next t → t.reading = .mode
end

