-- ==== Sys2Proof/Laws/State.lean ====
section
/-! SUPPORT. What each update of the state leaves in each field: one lemma a field, so that no proof unfolds a record
update. -/

namespace Sys2Proof.Machine

@[simp] theorem State.consume_cfg (n : Nat) (s : State) : (s.consume n).cfg = s.cfg := rfl
@[simp] theorem State.consume_pins (n : Nat) (s : State) : (s.consume n).pins = s.pins := rfl
@[simp] theorem State.consume_win (n : Nat) (s : State) : (s.consume n).win = s.win.consume n := rfl
@[simp] theorem State.consume_a0 (n : Nat) (s : State) : (s.consume n).a0 = s.a0 := rfl
@[simp] theorem State.consume_color (n : Nat) (s : State) : (s.consume n).color = s.color := rfl
@[simp] theorem State.consume_cur (n : Nat) (s : State) : (s.consume n).cur = s.cur := rfl
@[simp] theorem State.consume_ref (n : Nat) (s : State) : (s.consume n).ref = s.ref := rfl
@[simp] theorem State.consume_lines (n : Nat) (s : State) : (s.consume n).lines = s.lines := rfl
@[simp] theorem State.consume_phase (n : Nat) (s : State) : (s.consume n).phase = s.phase := rfl
@[simp] theorem State.consume_width (n : Nat) (s : State) : (s.consume n).width = s.width := rfl
@[simp] theorem State.consume_invert (n : Nat) (s : State) : (s.consume n).invert = s.invert := rfl
@[simp] theorem State.consume_reading (n : Nat) (s : State) : (s.consume n).reading = s.reading := rfl
@[simp] theorem State.consume_status (n : Nat) (s : State) :
    (s.consume n).status = { s.status with consumed := (s.win.consume n).position } := rfl
@[simp] theorem State.consume_out (n : Nat) (s : State) : (s.consume n).out = s.out := rfl

@[simp] theorem consumeMode_cfg (i : Instr) (s : State) : (consumeMode i s).cfg = s.cfg := rfl
@[simp] theorem consumeMode_pins (i : Instr) (s : State) : (consumeMode i s).pins = s.pins := rfl
@[simp] theorem consumeMode_win (i : Instr) (s : State) : (consumeMode i s).win = s.win.consume i.code.len := rfl
@[simp] theorem consumeMode_a0 (i : Instr) (s : State) : (consumeMode i s).a0 = s.a0 := rfl
@[simp] theorem consumeMode_color (i : Instr) (s : State) : (consumeMode i s).color = s.color := rfl
@[simp] theorem consumeMode_cur (i : Instr) (s : State) : (consumeMode i s).cur = s.cur := rfl
@[simp] theorem consumeMode_ref (i : Instr) (s : State) : (consumeMode i s).ref = s.ref := rfl
@[simp] theorem consumeMode_lines (i : Instr) (s : State) : (consumeMode i s).lines = s.lines := rfl
@[simp] theorem consumeMode_phase (i : Instr) (s : State) : (consumeMode i s).phase = .within := rfl
@[simp] theorem consumeMode_width (i : Instr) (s : State) : (consumeMode i s).width = s.width := rfl
@[simp] theorem consumeMode_invert (i : Instr) (s : State) : (consumeMode i s).invert = s.invert := rfl
@[simp] theorem consumeMode_reading (i : Instr) (s : State) : (consumeMode i s).reading = s.reading := rfl
@[simp] theorem consumeMode_status (i : Instr) (s : State) :
    (consumeMode i s).status = { s.status with consumed := (s.win.consume i.code.len).position } := rfl
@[simp] theorem consumeMode_out (i : Instr) (s : State) : (consumeMode i s).out = s.out := rfl

@[simp] theorem endLaunch_cfg (e : Bool) (c : Cause) (s : State) : (endLaunch e c s).cfg = s.cfg := rfl
@[simp] theorem endLaunch_pins (e : Bool) (c : Cause) (s : State) : (endLaunch e c s).pins = s.pins := rfl
@[simp] theorem endLaunch_win (e : Bool) (c : Cause) (s : State) : (endLaunch e c s).win = s.win := rfl
@[simp] theorem endLaunch_a0 (e : Bool) (c : Cause) (s : State) : (endLaunch e c s).a0 = s.a0 := rfl
@[simp] theorem endLaunch_color (e : Bool) (c : Cause) (s : State) : (endLaunch e c s).color = s.color := rfl
@[simp] theorem endLaunch_cur (e : Bool) (c : Cause) (s : State) : (endLaunch e c s).cur = s.cur := rfl
@[simp] theorem endLaunch_ref (e : Bool) (c : Cause) (s : State) : (endLaunch e c s).ref = s.ref := rfl
@[simp] theorem endLaunch_lines (e : Bool) (c : Cause) (s : State) : (endLaunch e c s).lines = s.lines := rfl
@[simp] theorem endLaunch_phase (e : Bool) (c : Cause) (s : State) : (endLaunch e c s).phase = .done := rfl
@[simp] theorem endLaunch_width (e : Bool) (c : Cause) (s : State) : (endLaunch e c s).width = s.width := rfl
@[simp] theorem endLaunch_invert (e : Bool) (c : Cause) (s : State) : (endLaunch e c s).invert = s.invert := rfl
@[simp] theorem endLaunch_reading (e : Bool) (c : Cause) (s : State) : (endLaunch e c s).reading = .mode := rfl
@[simp] theorem endLaunch_status (e : Bool) (c : Cause) (s : State) : (endLaunch e c s).status = endStatus e c s := rfl
@[simp] theorem endLaunch_out (e : Bool) (c : Cause) (s : State) : (endLaunch e c s).out = s.out := rfl

@[simp] theorem State.fill_cfg (lo hi : Nat) (c : Colour) (s : State) : (s.fill lo hi c).cfg = s.cfg := rfl
@[simp] theorem State.fill_pins (lo hi : Nat) (c : Colour) (s : State) : (s.fill lo hi c).pins = s.pins := rfl
@[simp] theorem State.fill_win (lo hi : Nat) (c : Colour) (s : State) : (s.fill lo hi c).win = s.win := rfl
@[simp] theorem State.fill_a0 (lo hi : Nat) (c : Colour) (s : State) : (s.fill lo hi c).a0 = s.a0 := rfl
@[simp] theorem State.fill_color (lo hi : Nat) (c : Colour) (s : State) : (s.fill lo hi c).color = s.color := rfl
@[simp] theorem State.fill_cur (lo hi : Nat) (c : Colour) (s : State) :
    (s.fill lo hi c).cur = fillFrom lo (min hi s.width) c 0 s.cur := rfl
@[simp] theorem State.fill_ref (lo hi : Nat) (c : Colour) (s : State) : (s.fill lo hi c).ref = s.ref := rfl
@[simp] theorem State.fill_lines (lo hi : Nat) (c : Colour) (s : State) : (s.fill lo hi c).lines = s.lines := rfl
@[simp] theorem State.fill_phase (lo hi : Nat) (c : Colour) (s : State) : (s.fill lo hi c).phase = s.phase := rfl
@[simp] theorem State.fill_width (lo hi : Nat) (c : Colour) (s : State) : (s.fill lo hi c).width = s.width := rfl
@[simp] theorem State.fill_invert (lo hi : Nat) (c : Colour) (s : State) : (s.fill lo hi c).invert = s.invert := rfl
@[simp] theorem State.fill_reading (lo hi : Nat) (c : Colour) (s : State) : (s.fill lo hi c).reading = s.reading := rfl
@[simp] theorem State.fill_status (lo hi : Nat) (c : Colour) (s : State) : (s.fill lo hi c).status = s.status := rfl
@[simp] theorem State.fill_out (lo hi : Nat) (c : Colour) (s : State) : (s.fill lo hi c).out = s.out := rfl

@[simp] theorem State.emit_cfg (line : List Colour) (s : State) : (s.emit line).cfg = s.cfg := rfl
@[simp] theorem State.emit_pins (line : List Colour) (s : State) : (s.emit line).pins = s.pins := rfl
@[simp] theorem State.emit_win (line : List Colour) (s : State) : (s.emit line).win = s.win := rfl
@[simp] theorem State.emit_a0 (line : List Colour) (s : State) : (s.emit line).a0 = s.a0 := rfl
@[simp] theorem State.emit_color (line : List Colour) (s : State) : (s.emit line).color = s.color := rfl
@[simp] theorem State.emit_cur (line : List Colour) (s : State) : (s.emit line).cur = s.cur := rfl
@[simp] theorem State.emit_ref (line : List Colour) (s : State) : (s.emit line).ref = s.ref := rfl
@[simp] theorem State.emit_lines (line : List Colour) (s : State) : (s.emit line).lines = s.lines + 1 := rfl
@[simp] theorem State.emit_phase (line : List Colour) (s : State) : (s.emit line).phase = s.phase := rfl
@[simp] theorem State.emit_width (line : List Colour) (s : State) : (s.emit line).width = s.width := rfl
@[simp] theorem State.emit_invert (line : List Colour) (s : State) : (s.emit line).invert = s.invert := rfl
@[simp] theorem State.emit_reading (line : List Colour) (s : State) : (s.emit line).reading = s.reading := rfl
@[simp] theorem State.emit_status (line : List Colour) (s : State) :
    (s.emit line).status = { s.status with lines := s.lines + 1 } := rfl
@[simp] theorem State.emit_out (line : List Colour) (s : State) :
    (s.emit line).out = s.out.writeLine (s.lines * s.width) (line.map s.pixelByte) := rfl

@[simp] theorem State.newLine_cfg (line : List Colour) (s : State) : (s.newLine line).cfg = s.cfg := rfl
@[simp] theorem State.newLine_pins (line : List Colour) (s : State) : (s.newLine line).pins = s.pins := rfl
@[simp] theorem State.newLine_win (line : List Colour) (s : State) : (s.newLine line).win = s.win := rfl
@[simp] theorem State.newLine_a0 (line : List Colour) (s : State) : (s.newLine line).a0 = 0 := rfl
@[simp] theorem State.newLine_color (line : List Colour) (s : State) : (s.newLine line).color = .white := rfl
@[simp] theorem State.newLine_cur (line : List Colour) (s : State) :
    (s.newLine line).cur = List.replicate s.width none := rfl
@[simp] theorem State.newLine_ref (line : List Colour) (s : State) : (s.newLine line).ref = line := rfl
@[simp] theorem State.newLine_lines (line : List Colour) (s : State) : (s.newLine line).lines = s.lines := rfl
@[simp] theorem State.newLine_phase (line : List Colour) (s : State) : (s.newLine line).phase = .between := rfl
@[simp] theorem State.newLine_width (line : List Colour) (s : State) : (s.newLine line).width = s.width := rfl
@[simp] theorem State.newLine_invert (line : List Colour) (s : State) : (s.newLine line).invert = s.invert := rfl
@[simp] theorem State.newLine_reading (line : List Colour) (s : State) : (s.newLine line).reading = .endOfBlock := rfl
@[simp] theorem State.newLine_status (line : List Colour) (s : State) : (s.newLine line).status = s.status := rfl
@[simp] theorem State.newLine_out (line : List Colour) (s : State) : (s.newLine line).out = s.out := rfl

@[simp] theorem horizontalFill_cfg (r1 r2 : Nat) (s : State) : (horizontalFill r1 r2 s).cfg = s.cfg := rfl
@[simp] theorem horizontalFill_pins (r1 r2 : Nat) (s : State) : (horizontalFill r1 r2 s).pins = s.pins := rfl
@[simp] theorem horizontalFill_win (r1 r2 : Nat) (s : State) : (horizontalFill r1 r2 s).win = s.win := rfl
@[simp] theorem horizontalFill_a0 (r1 r2 : Nat) (s : State) : (horizontalFill r1 r2 s).a0 = s.a0 + r1 + r2 := rfl
@[simp] theorem horizontalFill_color (r1 r2 : Nat) (s : State) :
    (horizontalFill r1 r2 s).color = colourAfterHorizontal s.cfg s.color := rfl
@[simp] theorem horizontalFill_cur (r1 r2 : Nat) (s : State) :
    (horizontalFill r1 r2 s).cur = fillFrom (s.a0 + r1) (min (s.a0 + r1 + r2) s.width) s.color.opp 0 (fillFrom s.a0 (min (s.a0 + r1) s.width) s.color 0 s.cur) := rfl
@[simp] theorem horizontalFill_ref (r1 r2 : Nat) (s : State) : (horizontalFill r1 r2 s).ref = s.ref := rfl
@[simp] theorem horizontalFill_lines (r1 r2 : Nat) (s : State) : (horizontalFill r1 r2 s).lines = s.lines := rfl
@[simp] theorem horizontalFill_phase (r1 r2 : Nat) (s : State) : (horizontalFill r1 r2 s).phase = s.phase := rfl
@[simp] theorem horizontalFill_width (r1 r2 : Nat) (s : State) : (horizontalFill r1 r2 s).width = s.width := rfl
@[simp] theorem horizontalFill_invert (r1 r2 : Nat) (s : State) : (horizontalFill r1 r2 s).invert = s.invert := rfl
@[simp] theorem horizontalFill_reading (r1 r2 : Nat) (s : State) : (horizontalFill r1 r2 s).reading = s.reading := rfl
@[simp] theorem horizontalFill_status (r1 r2 : Nat) (s : State) : (horizontalFill r1 r2 s).status = s.status := rfl
@[simp] theorem horizontalFill_out (r1 r2 : Nat) (s : State) : (horizontalFill r1 r2 s).out = s.out := rfl

@[simp] theorem State.dropStart_cfg (s : State) : s.dropStart.cfg = s.cfg := rfl
@[simp] theorem State.dropStart_pins (s : State) : s.dropStart.pins = { s.pins with start := false } := rfl
@[simp] theorem State.dropStart_win (s : State) : s.dropStart.win = s.win := rfl
@[simp] theorem State.dropStart_a0 (s : State) : s.dropStart.a0 = s.a0 := rfl
@[simp] theorem State.dropStart_color (s : State) : s.dropStart.color = s.color := rfl
@[simp] theorem State.dropStart_cur (s : State) : s.dropStart.cur = s.cur := rfl
@[simp] theorem State.dropStart_ref (s : State) : s.dropStart.ref = s.ref := rfl
@[simp] theorem State.dropStart_lines (s : State) : s.dropStart.lines = s.lines := rfl
@[simp] theorem State.dropStart_phase (s : State) : s.dropStart.phase = s.phase := rfl
@[simp] theorem State.dropStart_width (s : State) : s.dropStart.width = s.width := rfl
@[simp] theorem State.dropStart_invert (s : State) : s.dropStart.invert = s.invert := rfl
@[simp] theorem State.dropStart_reading (s : State) : s.dropStart.reading = s.reading := rfl
@[simp] theorem State.dropStart_status (s : State) : s.dropStart.status = s.status := rfl
@[simp] theorem State.dropStart_out (s : State) : s.dropStart.out = s.out := rfl

@[simp] theorem State.clearStatus_cfg (s : State) : s.clearStatus.cfg = s.cfg := rfl
@[simp] theorem State.clearStatus_pins (s : State) : s.clearStatus.pins = s.pins := rfl
@[simp] theorem State.clearStatus_win (s : State) : s.clearStatus.win = s.win := rfl
@[simp] theorem State.clearStatus_a0 (s : State) : s.clearStatus.a0 = s.a0 := rfl
@[simp] theorem State.clearStatus_color (s : State) : s.clearStatus.color = s.color := rfl
@[simp] theorem State.clearStatus_cur (s : State) : s.clearStatus.cur = s.cur := rfl
@[simp] theorem State.clearStatus_ref (s : State) : s.clearStatus.ref = s.ref := rfl
@[simp] theorem State.clearStatus_lines (s : State) : s.clearStatus.lines = 0 := rfl
@[simp] theorem State.clearStatus_phase (s : State) : s.clearStatus.phase = s.phase := rfl
@[simp] theorem State.clearStatus_width (s : State) : s.clearStatus.width = s.width := rfl
@[simp] theorem State.clearStatus_invert (s : State) : s.clearStatus.invert = s.invert := rfl
@[simp] theorem State.clearStatus_reading (s : State) : s.clearStatus.reading = s.reading := rfl
@[simp] theorem State.clearStatus_status (s : State) : s.clearStatus.status = Status.clear := rfl
@[simp] theorem State.clearStatus_out (s : State) : s.clearStatus.out = s.out := rfl

@[simp] theorem beginLaunch_cfg (w : Nat) (v : Bool) (src : List Byte) (s : State) :
    (beginLaunch w v src s).cfg = s.cfg := rfl
@[simp] theorem beginLaunch_pins (w : Nat) (v : Bool) (src : List Byte) (s : State) :
    (beginLaunch w v src s).pins = s.pins := rfl
@[simp] theorem beginLaunch_win (w : Nat) (v : Bool) (src : List Byte) (s : State) :
    (beginLaunch w v src s).win = Window.construct src := rfl
@[simp] theorem beginLaunch_a0 (w : Nat) (v : Bool) (src : List Byte) (s : State) :
    (beginLaunch w v src s).a0 = 0 := rfl
@[simp] theorem beginLaunch_color (w : Nat) (v : Bool) (src : List Byte) (s : State) :
    (beginLaunch w v src s).color = .white := rfl
@[simp] theorem beginLaunch_cur (w : Nat) (v : Bool) (src : List Byte) (s : State) :
    (beginLaunch w v src s).cur = List.replicate w none := rfl
@[simp] theorem beginLaunch_ref (w : Nat) (v : Bool) (src : List Byte) (s : State) :
    (beginLaunch w v src s).ref = List.replicate w .white := rfl
@[simp] theorem beginLaunch_lines (w : Nat) (v : Bool) (src : List Byte) (s : State) :
    (beginLaunch w v src s).lines = 0 := rfl
@[simp] theorem beginLaunch_phase (w : Nat) (v : Bool) (src : List Byte) (s : State) :
    (beginLaunch w v src s).phase = .between := rfl
@[simp] theorem beginLaunch_width (w : Nat) (v : Bool) (src : List Byte) (s : State) :
    (beginLaunch w v src s).width = w := rfl
@[simp] theorem beginLaunch_invert (w : Nat) (v : Bool) (src : List Byte) (s : State) :
    (beginLaunch w v src s).invert = v := rfl
@[simp] theorem beginLaunch_reading (w : Nat) (v : Bool) (src : List Byte) (s : State) :
    (beginLaunch w v src s).reading = .mode := rfl
@[simp] theorem beginLaunch_status (w : Nat) (v : Bool) (src : List Byte) (s : State) :
    (beginLaunch w v src s).status = { Status.clear with busy := true } := rfl
@[simp] theorem beginLaunch_out (w : Nat) (v : Bool) (src : List Byte) (s : State) :
    (beginLaunch w v src s).out = s.out := rfl

@[simp] theorem applyReset_cfg (s : State) : (applyReset s).cfg = s.cfg := rfl
@[simp] theorem applyReset_pins (s : State) : (applyReset s).pins = { s.pins with start := false, rst := false } := rfl
@[simp] theorem applyReset_win (s : State) : (applyReset s).win = State.reset.win := rfl
@[simp] theorem applyReset_a0 (s : State) : (applyReset s).a0 = 0 := rfl
@[simp] theorem applyReset_color (s : State) : (applyReset s).color = .white := rfl
@[simp] theorem applyReset_cur (s : State) : (applyReset s).cur = [] := rfl
@[simp] theorem applyReset_ref (s : State) : (applyReset s).ref = [] := rfl
@[simp] theorem applyReset_lines (s : State) : (applyReset s).lines = 0 := rfl
@[simp] theorem applyReset_phase (s : State) : (applyReset s).phase = .idle := rfl
@[simp] theorem applyReset_width (s : State) : (applyReset s).width = 0 := rfl
@[simp] theorem applyReset_invert (s : State) : (applyReset s).invert = false := rfl
@[simp] theorem applyReset_reading (s : State) : (applyReset s).reading = .mode := rfl
@[simp] theorem applyReset_status (s : State) : (applyReset s).status = Status.clear := rfl
@[simp] theorem applyReset_out (s : State) : (applyReset s).out = s.out := rfl

@[simp] theorem raiseStop_eq (c : Cause) (s : State) : raiseStop c s = endLaunch false c s := rfl
@[simp] theorem raiseFault_eq (c : Cause) (s : State) : raiseFault c s = endLaunch true c s := rfl

/-- The end-of-block check leaves everything but the phase, the place in the step and the status. -/
theorem State.checkEndOfBlock_cases (s : State) :
    (s.showsEndOfBlock = true ∧ s.checkEndOfBlock = endLaunch false .endOfBlock s) ∨
      (s.showsEndOfBlock = false ∧ s.checkEndOfBlock = { s with reading := .mode }) := by
  unfold State.checkEndOfBlock
  cases h : s.showsEndOfBlock <;> simp

end Sys2Proof.Machine
end

