-- ==== Sys2Proof/Laws/Window.lean ====
section
/-! SUPPORT. The Bit Window: what a byte inserted into the accumulator leaves in each bit, what a refill can do, and the
bits of the stream. -/

namespace Sys2Proof.Machine

theorem ones8_getLsbD (k : Nat) : (0xFF#32).getLsbD k = decide (k < 8) := by
  by_cases h : k < 32
  · have : ∀ k < 32, (0xFF#32).getLsbD k = decide (k < 8) := by decide
    exact this k h
  · rw [BitVec.getLsbD_of_ge _ _ (by omega)]; simp; omega

/-- The bits of the accumulator after a byte is put in: the byte's bits in the eight target places, the others as they
were (R112). -/
theorem insertByte_getLsbD (buffer : Acc) (sh : Nat) (b : Byte) (i : Nat) (hi : i < 32) :
    (insertByte buffer sh b).getLsbD i =
      if sh ≤ i ∧ i < sh + 8 then b.getLsbD (i - sh) else buffer.getLsbD i := by
  simp only [insertByte, BitVec.getLsbD_or, BitVec.getLsbD_and, BitVec.getLsbD_not, BitVec.getLsbD_shiftLeft,
    ones8_getLsbD, BitVec.getLsbD_setWidth, hi, decide_true, Bool.true_and]
  by_cases h : i < sh
  · have : ¬(sh ≤ i ∧ i < sh + 8) := by omega
    simp [h, this]
  · by_cases h2 : i - sh < 8
    · have h3 : sh ≤ i ∧ i < sh + 8 := by omega
      have h4 : i - sh < 32 := by omega
      simp [h, h2, h3, h4]
    · have h3 : ¬(sh ≤ i ∧ i < sh + 8) := by omega
      have h4 : b.getLsbD (i - sh) = false := BitVec.getLsbD_of_ge _ _ (by omega)
      simp [h, h2, h3, h4]

/-- The same counted from the high-order end, where the next bit of the stream stands. -/
theorem insertByte_getMsbD (buffer : Acc) (e : Nat) (b : Byte) (j : Nat) (he : 8 ≤ e) (he' : e ≤ 32) (hj : j < 32) :
    (insertByte buffer (e - 8) b).getMsbD j =
      if 32 - e ≤ j ∧ j < 40 - e then b.getMsbD (j - (32 - e)) else buffer.getMsbD j := by
  simp only [BitVec.getMsbD, hj, decide_true, Bool.true_and]
  rw [insertByte_getLsbD _ _ _ _ (by omega)]
  by_cases h : 32 - e ≤ j ∧ j < 40 - e
  · rw [if_pos (by omega), if_pos h]
    have h1 : j - (32 - e) < 8 := by omega
    simp only [h1, decide_true, Bool.true_and]
    congr 1; omega
  · rw [if_neg (by omega), if_neg h]

/-- One pass of the refill loop, or its end. -/
theorem Window.refillFrom_succ (n : Nat) (w : Window) :
    w.refillFrom (n + 1) =
      if h : 8 ≤ w.emptyBits ∧ w.sourcePos < w.source.length then
        Window.refillFrom n
          { w with buffer := insertByte w.buffer (w.emptyBits - 8) (w.source[w.sourcePos]'h.2)
                   emptyBits := w.emptyBits - 8
                   sourcePos := w.sourcePos + 1 }
      else w := by
  rw [Window.refillFrom]
  by_cases h8 : 8 ≤ w.emptyBits
  · by_cases hs : w.sourcePos < w.source.length
    · simp [h8, hs]
    · simp [h8, hs]
  · simp [h8]

/-- An induction over the refill: a property that one pass keeps holds after the refill. -/
theorem Window.refillFrom_induction (P : Window → Prop)
    (pass : ∀ w : Window, (h : 8 ≤ w.emptyBits ∧ w.sourcePos < w.source.length) → P w →
      P { w with buffer := insertByte w.buffer (w.emptyBits - 8) (w.source[w.sourcePos]'h.2)
                 emptyBits := w.emptyBits - 8
                 sourcePos := w.sourcePos + 1 })
    (n : Nat) (w : Window) (hw : P w) : P (w.refillFrom n) := by
  induction n generalizing w with
  | zero => exact hw
  | succ n ih =>
    rw [Window.refillFrom_succ]
    split
    · exact ih _ (pass w ‹_› hw)
    · exact hw

@[simp] theorem Window.refill_source (w : Window) : w.refill.source = w.source :=
  Window.refillFrom_induction (fun v => v.source = w.source) (fun _ _ h => h) _ w rfl

@[simp] theorem Window.construct_source (src : List Byte) : (Window.construct src).source = src := by
  simp [Window.construct]

@[simp] theorem Window.consume_source (n : Nat) (w : Window) : (w.consume n).source = w.source := by
  simp [Window.consume]

/-- The loop stops only when fewer than eight bits are empty or the source is exhausted (R112). -/
theorem Window.refillFrom_done (n : Nat) (w : Window) (hn : w.emptyBits < 8 * (n + 1)) :
    (w.refillFrom n).emptyBits < 8 ∨ w.source.length ≤ (w.refillFrom n).sourcePos := by
  induction n generalizing w with
  | zero => left; simpa [Window.refillFrom] using hn
  | succ n ih =>
    rw [Window.refillFrom_succ]
    split
    · rename_i h
      exact ih _ (by dsimp only; omega)
    · rename_i h
      by_cases h8 : w.emptyBits < 8
      · exact .inl h8
      · right; omega

/-- The corner cases of R112: after a refill fewer than eight bits are empty or no source byte is unread. -/
theorem Window.refill_done (w : Window) : w.refill.emptyBits < 8 ∨ w.source.length ≤ w.refill.sourcePos :=
  Window.refillFrom_done _ w (by omega)

/-- What the refill moves: the empty bits only fall, the cursor stays in the source, and the stream position stays. -/
theorem Window.refill_moves (w : Window) (he : w.emptyBits ≤ 32) (hp : w.sourcePos ≤ w.source.length)
    (hv : w.valid ≤ 8 * w.sourcePos) :
    w.refill.emptyBits ≤ w.emptyBits ∧ w.refill.sourcePos ≤ w.source.length ∧
      w.refill.valid ≤ 8 * w.refill.sourcePos ∧ w.refill.position = w.position ∧
      w.refill.remaining = w.remaining := by
  have := Window.refillFrom_induction
    (fun v => v.emptyBits ≤ w.emptyBits ∧ v.sourcePos ≤ w.source.length ∧ v.valid ≤ 8 * v.sourcePos ∧
      v.position = w.position ∧ v.remaining = w.remaining ∧ v.source = w.source)
    (by
      rintro v ⟨h8, hs⟩ ⟨h1, h2, h3, h4, h5, h6⟩
      have hl : v.source.length = w.source.length := by rw [h6]
      simp only [Window.valid, Window.position, Window.remaining] at *
      refine ⟨?_, ?_, ?_, ?_, ?_, h6⟩ <;> omega)
    (w.emptyBits / 8) w ⟨Nat.le_refl _, hp, hv, rfl, rfl, rfl⟩
  exact ⟨this.1, this.2.1, this.2.2.1, this.2.2.2.1, this.2.2.2.2.1⟩

/-! The bits of the stream. -/

@[simp] theorem byteBits_length (b : Byte) : (byteBits b).length = 8 := by simp [byteBits]

theorem byteBits_getD (b : Byte) (j : Nat) : (byteBits b).getD j false = b.getMsbD j := by
  by_cases h : j < 8
  · simp [byteBits, List.getD, h]
  · rw [List.getD_eq_default _ _ (by simpa using Nat.le_of_not_lt h)]
    simp [BitVec.getMsbD, h]

@[simp] theorem flatMap_byteBits_length (bs : List Byte) : (bs.flatMap byteBits).length = 8 * bs.length := by
  induction bs with
  | nil => rfl
  | cons b bs ih => simp [List.flatMap_cons, ih]; omega

/-- Stream bit `8 i + j` is bit `7 - j` of byte `i` (R66). -/
theorem flatMap_byteBits_getD (bs : List Byte) (i j : Nat) (hj : j < 8) (hi : i < bs.length) :
    (bs.flatMap byteBits).getD (8 * i + j) false = bs[i].getMsbD j := by
  induction bs generalizing i with
  | nil => simp at hi
  | cons b bs ih =>
    rw [List.flatMap_cons]
    cases i with
    | zero =>
      have : j < (byteBits b).length := by simpa using hj
      rw [List.getD_append _ _ _ _ (by simpa using hj)]
      simpa using byteBits_getD b j
    | succ i =>
      rw [List.getD_append_right _ _ _ _ (by simp; omega)]
      have : 8 * (i + 1) + j - (byteBits b).length = 8 * i + j := by simp; omega
      rw [this, ih i (by simpa using hi)]
      rfl

/-- The stream left depends on the source and the position alone (R24). -/
theorem Window.streamBits_eq {v w : Window} (hs : v.source = w.source) (hp : v.position = w.position) :
    v.streamBits = w.streamBits := by
  simp [Window.streamBits, Window.sourceBits, hs, hp]

/-- The window shows the stream, the refill not yet done (R22, R23, R111). -/
abbrev Window.shows (w : Window) : Prop :=
  w.emptyBits ≤ 32 ∧ w.sourcePos ≤ w.source.length ∧ w.valid ≤ 8 * w.sourcePos ∧
  ∀ j < 32, w.buffer.getMsbD j = (decide (j < w.valid) && w.streamBits.getD j false)

/-- A refill keeps the window showing the stream. -/
theorem Window.refillFrom_shows (n : Nat) (w : Window) (h : w.shows) : (w.refillFrom n).shows := by
  refine Window.refillFrom_induction Window.shows ?_ n w h
  rintro v ⟨h8, hs⟩ ⟨h1, h2, h3, h4⟩
  have hst : ({ v with buffer := insertByte v.buffer (v.emptyBits - 8) v.source[v.sourcePos]
                       emptyBits := v.emptyBits - 8
                       sourcePos := v.sourcePos + 1 } : Window).streamBits = v.streamBits :=
    Window.streamBits_eq rfl (by simp only [Window.position, Window.valid] at *; omega)
  refine ⟨by dsimp only; omega, by dsimp only; omega, by simp only [Window.valid] at *; omega, ?_⟩
  intro j hj
  rw [hst]
  simp only [Window.valid] at *
  rw [insertByte_getMsbD _ _ _ _ h8 h1 hj]
  split
  · rename_i hr
    have : v.streamBits.getD j false = v.source[v.sourcePos].getMsbD (j - (32 - v.emptyBits)) := by
      rw [← flatMap_byteBits_getD v.source v.sourcePos (j - (32 - v.emptyBits)) (by omega) hs]
      simp only [Window.streamBits, Window.sourceBits, List.getD_eq_getElem?_getD, List.getElem?_drop,
        Window.position, Window.valid]
      congr 2; omega
    have hv : j < 32 - (v.emptyBits - 8) := by omega
    simp only [this, hv, decide_true, Bool.true_and]
  · rename_i hr
    rw [h4 j hj]
    by_cases hv : j < 32 - v.emptyBits
    · have : j < 32 - (v.emptyBits - 8) := by omega
      simp [hv, this]
    · have : ¬ j < 32 - (v.emptyBits - 8) := by omega
      simp [hv, this]

/-- A refill of a window that shows the stream is well formed. -/
theorem Window.refill_wf (w : Window) (h : w.shows) : w.refill.wf := by
  have a := Window.refillFrom_shows (w.emptyBits / 8) w h
  have b := Window.refill_done w
  refine ⟨a.1, a.2.1, a.2.2.1, ?_, a.2.2.2⟩
  rcases b with b | b
  · exact .inl b
  · right
    have := a.2.1
    have e : w.refill.source.length = w.source.length := by simp
    change w.refill.sourcePos ≤ w.refill.source.length at this
    change w.refill.sourcePos = w.refill.source.length
    omega

end Sys2Proof.Machine
end

