-- ==== Sys2Proof/Laws/Exec.lean ====
section
/-! SUPPORT. The meanings: which shared operation each arm of `exec` is, and once for each shared operation everything
it can do. -/

namespace Sys2Proof.Machine

/-! The arms. -/

theorem exec_p (s : State) : exec .p s = execMode .p passAction s := rfl
theorem exec_h (s : State) : exec .h s = execMode .h horizontalAction s := rfl
theorem exec_ext (s : State) : exec .ext s = execUnrecognized s := rfl
theorem exec_eob (s : State) : exec .eob s = execEob s := rfl

/-- Every VERTICAL code is `execMode` with its own offset (R177). -/
theorem exec_vertical {i : Instr} {k : Int} (h : (i, k) ∈ verticalCodes) (s : State) :
    exec i s = execMode i (verticalAction k) s := by
  simp only [verticalCodes, List.mem_cons, Prod.mk.injEq, List.not_mem_nil, or_false] at h
  rcases h with ⟨rfl, rfl⟩ | ⟨rfl, rfl⟩ | ⟨rfl, rfl⟩ | ⟨rfl, rfl⟩ | ⟨rfl, rfl⟩ | ⟨rfl, rfl⟩ | ⟨rfl, rfl⟩ <;> rfl

/-- Every code of a colour's list is one run code (R138). -/
theorem exec_runCode {i : Instr} {c : Colour} (h : i.wellFormed (.run c) = true) (s : State) :
    exec i s = execRunCode i s := by
  cases i <;> first | rfl | (cases c <;> exact absurd h (by decide))

/-- A mode code is PASS, HORIZONTAL, EXT or VERTICAL with an offset (R150). -/
theorem mode_cases {i : Instr} (h : i.wellFormed .mode = true) :
    i = .p ∨ i = .h ∨ i = .ext ∨ ∃ k, (i, k) ∈ verticalCodes := by
  cases i <;> first
    | exact .inl rfl
    | exact .inr (.inl rfl)
    | exact .inr (.inr (.inl rfl))
    | exact .inr (.inr (.inr ⟨_, by simp [verticalCodes]; rfl⟩))
    | exact absurd h (by decide)

/-! Line completion. -/

/-- `CompleteLine` (R195): LINE_LIMIT, a pixel no fill wrote, or the line emitted and the end-of-block check done. -/
theorem completeLine_cases (s : State) :
    (s.atLineLimit = true ∧ completeLine s = .next (endLaunch true .lineLimit s)) ∨
      (s.atLineLimit = false ∧ writtenPixels s.width s.cur = none ∧ completeLine s = .fault .unwrittenPixel) ∨
      ∃ px, s.atLineLimit = false ∧ writtenPixels s.width s.cur = some px ∧
        completeLine s = .next ((s.emit px).newLine px).checkEndOfBlock := by
  unfold completeLine
  cases hl : s.atLineLimit
  · cases hw : writtenPixels s.width s.cur with
    | none => exact .inr (.inl ⟨rfl, rfl, by simp⟩)
    | some px => exact .inr (.inr ⟨px, rfl, rfl, by simp⟩)
  · exact .inl ⟨rfl, by simp⟩

/-- The end of a step (R171 step 6). -/
theorem finishStep_cases (s : State) :
    (s.a0 < s.width ∧ finishStep s = .next { s with reading := .mode }) ∨
      (s.width ≤ s.a0 ∧ finishStep s = completeLine s) := by
  unfold finishStep
  by_cases h : s.width ≤ s.a0
  · exact .inr ⟨h, by simp [h]⟩
  · exact .inl ⟨by omega, by simp [h]⟩

/-! The runs. -/

/-- `t` is `s` after nothing but reading from the stream: the window and CONSUMED are all that moved. -/
abbrev onlyRead (s t : State) : Prop :=
  t = { s with win := t.win, status := { s.status with consumed := t.status.consumed } } ∧
    t.win.source = s.win.source

theorem onlyRead_refl (s : State) : onlyRead s s := ⟨rfl, rfl⟩

theorem onlyRead_consume (n : Nat) (s : State) : onlyRead s (s.consume n) :=
  ⟨rfl, Window.consume_source n s.win⟩

theorem onlyRead_trans {s t u : State} (h : onlyRead s t) (k : onlyRead t u) : onlyRead s u := by
  refine ⟨?_, k.2.trans h.2⟩
  rw [k.1, h.1]

/-- The checks of R143 on the next code: what each answer says of the window. -/
theorem nextRunCode_cases (c : Colour) (w : Window) :
    (w.valid = 0 ∧ nextRunCode c w = .error .unexpectedEnd) ∨
      (0 < w.valid ∧ runMatch w.peek16.1 c = none ∧ nextRunCode c w = .error .corruptRunCode) ∨
      ∃ i, runMatch w.peek16.1 c = some i ∧
        ((w.valid < i.code.len ∧ nextRunCode c w = .error .unexpectedEnd) ∨
          (0 < w.valid ∧ i.code.len ≤ w.valid ∧ nextRunCode c w = .ok i)) := by
  unfold nextRunCode
  by_cases hv : w.valid = 0
  · exact .inl ⟨hv, by simp [hv]⟩
  · have hv' : 0 < w.valid := by omega
    cases hm : runMatch w.peek16.1 c with
    | none => exact .inr (.inl ⟨hv', rfl, by simp [hv]⟩)
    | some i =>
      refine .inr (.inr ⟨i, rfl, ?_⟩)
      by_cases hl : w.valid < i.code.len
      · exact .inl ⟨hl, by simp [hv, hl]⟩
      · exact .inr ⟨hv', by omega, by simp [hv, hl]⟩

/-- `DecodeRun` reads from the stream and does nothing else, or ends the launch after that. -/
theorem decodeRunFrom_cases (n : Nat) (c : Colour) (total : Nat) (s : State) :
    (∃ px t, decodeRunFrom n c total s = .run px t ∧ onlyRead s t) ∨
      ∃ cause t, decodeRunFrom n c total s = .ended (endLaunch true cause t) ∧ onlyRead s t := by
  induction n generalizing total s with
  | zero => exact .inr ⟨.unexpectedEnd, s, rfl, onlyRead_refl s⟩
  | succ n ih =>
    rw [decodeRunFrom]
    split
    · rename_i cause _
      exact .inr ⟨cause, s, rfl, onlyRead_refl s⟩
    · rename_i i _
      split
      · exact .inl ⟨_, _, rfl, onlyRead_consume _ s⟩
      · rcases ih (total + i.pixels s.cfg) (s.consume i.code.len) with ⟨px, t, h, k⟩ | ⟨cause, t, h, k⟩
        · exact .inl ⟨px, t, h, onlyRead_trans (onlyRead_consume _ s) k⟩
        · exact .inr ⟨cause, t, h, onlyRead_trans (onlyRead_consume _ s) k⟩

/-- HORIZONTAL's action: both runs read and filled in, or the launch ended in a run (R186). -/
theorem horizontalAction_cases (s : State) :
    (∃ r1 r2 t, horizontalAction s = .goesOn (horizontalFill r1 r2 t) ∧ onlyRead s t) ∨
      ∃ cause t, horizontalAction s = .ended (endLaunch true cause t) ∧ onlyRead s t := by
  unfold horizontalAction decodeRun
  rcases decodeRunFrom_cases s.win.remaining s.color 0 s with ⟨r1, t, h, k⟩ | ⟨cause, t, h, k⟩
  · rw [h]
    dsimp only
    rcases decodeRunFrom_cases t.win.remaining s.color.opp 0 t with ⟨r2, u, h', k'⟩ | ⟨cause, u, h', k'⟩
    · rw [h']; exact .inl ⟨r1, r2, u, rfl, onlyRead_trans k k'⟩
    · rw [h']; exact .inr ⟨cause, u, rfl, onlyRead_trans k k'⟩
  · rw [h]; exact .inr ⟨cause, t, rfl, k⟩

/-! The shapes of a meaning. -/

/-- A mode code at the top of a coding step: not backed, ended in its action, or going on to line completion. -/
theorem execMode_ready {s : State} (h : s.ready) (i : Instr) (action : State → ActionEnd) :
    (s.win.valid < i.code.len ∧ execMode i action s = .next (endLaunch true .unexpectedEnd s)) ∨
      (i.code.len ≤ s.win.valid ∧
        ((∃ t, action (consumeMode i s) = .ended t ∧ execMode i action s = .next t) ∨
          ∃ t, action (consumeMode i s) = .goesOn t ∧ execMode i action s = finishStep t)) := by
  unfold execMode
  rw [if_pos h]
  by_cases hv : s.win.valid < i.code.len
  · exact .inl ⟨hv, by simp [hv]⟩
  · refine .inr ⟨by omega, ?_⟩
    rw [if_neg hv]
    cases action (consumeMode i s) with
    | ended t => exact .inl ⟨t, rfl, rfl⟩
    | goesOn t => exact .inr ⟨t, rfl, rfl⟩

/-- Away from the top of a coding step a mode code has no meaning. -/
theorem execMode_outOfContext {s : State} (h : ¬s.ready) (i : Instr) (action : State → ActionEnd) :
    execMode i action s = .refused .outOfContext := by
  unfold execMode; rw [if_neg h]

/-- A run code of the run being read: not backed, or consumed and added. -/
theorem execRunCode_reads {s : State} {i : Instr} (h : s.readsRunCode i = true) :
    (s.win.valid < i.code.len ∧ execRunCode i s = .next (endLaunch true .unexpectedEnd s)) ∨
      (i.code.len ≤ s.win.valid ∧
        execRunCode i s = addRun i.terminates (i.pixels s.cfg) (s.consume i.code.len)) := by
  unfold execRunCode
  rw [if_pos h]
  by_cases hv : s.win.valid < i.code.len
  · exact .inl ⟨hv, by simp [hv]⟩
  · exact .inr ⟨by omega, by simp [hv]⟩

/-- A code of the colour's list is read when a run of that colour is. -/
theorem readsRunCode_of {s : State} {i : Instr} {c : Colour} (hp : s.phase.coding = true)
    (hc : s.runColour? = some c) (hi : i.wellFormed (.run c) = true) : s.readsRunCode i = true := by
  simp [State.readsRunCode, hp, hc, hi]

/-! What the lookups answer. -/

/-- A mode lookup answers a mode code. -/
theorem modeMatch_wellFormed {w : BitVec 8} {i : Instr} (h : modeMatch w = some i) : i.wellFormed .mode = true := by
  have : ∀ j ∈ modeList, j.wellFormed .mode = true := by decide
  exact this i (List.mem_of_find?_eq_some h)

/-- A run lookup answers a code of the colour's list. -/
theorem runMatch_wellFormed {w : BitVec 16} {c : Colour} {i : Instr} (h : runMatch w c = some i) :
    i.wellFormed (.run c) = true := by
  have : ∀ c, ∀ j ∈ runList c, j.wellFormed (.run c) = true := by intro c; cases c <;> decide
  exact this c i (List.mem_of_find?_eq_some h)

end Sys2Proof.Machine
end

