-- ==== Sys2Proof/Laws/Line.lean ====
section
/-! SUPPORT. The line stores: what a fill writes, when a line is written, and what the search on the reference line
finds. -/

namespace Sys2Proof.Machine

@[simp] theorem fillFrom_length (lo hi : Nat) (c : Colour) (i : Nat) (l : List (Option Colour)) :
    (fillFrom lo hi c i l).length = l.length := by
  induction l generalizing i with
  | nil => rfl
  | cons p ps ih => simp [fillFrom, ih]

/-- A fill writes its range and leaves every other pixel. -/
theorem fillFrom_getElem? (lo hi : Nat) (c : Colour) (i : Nat) (l : List (Option Colour)) (x : Nat) :
    (fillFrom lo hi c i l)[x]? = if lo ≤ i + x ∧ i + x < hi then (l[x]?).map (fun _ => some c) else l[x]? := by
  induction l generalizing i x with
  | nil => simp [fillFrom]
  | cons p ps ih =>
    cases x with
    | zero => simp only [fillFrom, List.getElem?_cons_zero, Nat.add_zero]; split <;> rfl
    | succ x =>
      have h : i + 1 + x = i + (x + 1) := by omega
      simp only [fillFrom, List.getElem?_cons_succ, ih, h]

/-- An empty range fills nothing. -/
theorem fillFrom_empty {lo hi : Nat} (h : hi ≤ lo) (c : Colour) (i : Nat) (l : List (Option Colour)) :
    fillFrom lo hi c i l = l := by
  induction l generalizing i with
  | nil => rfl
  | cons p ps ih =>
    have : ¬(lo ≤ i ∧ i < hi) := by omega
    simp [fillFrom, ih, this]

/-- The pixels of a written line are the pixels of the store. -/
theorem writtenPixels_getElem? {n : Nat} {l : List (Option Colour)} {line : List Colour}
    (h : writtenPixels n l = some line) :
    line.length = n ∧ ∀ x < n, l[x]? = (line.map some)[x]? := by
  induction n generalizing l line with
  | zero => simp only [writtenPixels, Option.some.injEq] at h; subst h; simp
  | succ n ih =>
    match l with
    | [] => simp [writtenPixels] at h
    | none :: ps => simp [writtenPixels] at h
    | some c :: ps =>
      simp only [writtenPixels, Option.map_eq_some_iff] at h
      obtain ⟨rest, hr, rfl⟩ := h
      obtain ⟨h1, h2⟩ := ih hr
      refine ⟨by simp [h1], fun x hx => ?_⟩
      cases x with
      | zero => rfl
      | succ x => simpa using h2 x (by omega)

/-- A store whose first `n` pixels are written yields them (R199). -/
theorem writtenPixels_isSome {n : Nat} {l : List (Option Colour)} (h : ∀ x < n, l.getD x none ≠ none) :
    ∃ line, writtenPixels n l = some line := by
  induction n generalizing l with
  | zero => exact ⟨[], rfl⟩
  | succ n ih =>
    match l with
    | [] => exact absurd rfl (h 0 (by omega))
    | none :: ps => exact absurd rfl (h 0 (by omega))
    | some c :: ps =>
      obtain ⟨line, hl⟩ := ih (l := ps) fun x hx => by simpa using h (x + 1) (by omega)
      exact ⟨c :: line, by simp [writtenPixels, hl]⟩

/-- The colour before index `x` of a list whose first pixel stands at index `i` after the colour `prev`. -/
def before (prev : Colour) (l : List Colour) (x : Nat) : Colour := if x = 0 then prev else l.getD (x - 1) .white

/-- What the search answers: the first hit from the start on, or that there is none. -/
theorem firstFrom_cases (hit : Colour → Colour → Bool) (start : Nat) (prev : Colour) (i : Nat) (l : List Colour) :
    (∃ x, firstFrom hit start prev i l = some (i + x) ∧ x < l.length ∧ start ≤ i + x ∧
        hit (before prev l x) (l.getD x .white) = true ∧
        ∀ y < x, start ≤ i + y → hit (before prev l y) (l.getD y .white) = false) ∨
      (firstFrom hit start prev i l = none ∧
        ∀ y < l.length, start ≤ i + y → hit (before prev l y) (l.getD y .white) = false) := by
  induction l generalizing prev i with
  | nil => right; simp [firstFrom]
  | cons c cs ih =>
    rw [firstFrom]
    split
    · rename_i h
      exact .inl ⟨0, by simp, by simp, h.1, by simpa [before] using h.2, by simp⟩
    · rename_i h
      have step : ∀ y, before prev (c :: cs) (y + 1) = before c cs y := by
        intro y; cases y <;> simp [before]
      have h0 : start ≤ i → hit prev c = false := by
        intro hs; by_contra hc; exact h ⟨hs, by simpa using hc⟩
      rcases ih c (i + 1) with ⟨x, hx, hl, hs, hh, hm⟩ | ⟨hn, hm⟩
      · refine .inl ⟨x + 1, by rw [hx]; congr 1; omega, by simpa using hl, by omega, ?_, ?_⟩
        · rw [step]; simpa using hh
        · intro y hy hsy
          cases y with
          | zero => simpa [before] using h0 (by simpa using hsy)
          | succ y => rw [step]; simpa using hm y (by omega) (by omega)
      · refine .inr ⟨hn, ?_⟩
        intro y hy hsy
        cases y with
        | zero => simpa [before] using h0 (by simpa using hsy)
        | succ y => rw [step]; simpa using hm y (by simpa using hy) (by omega)

/-- The search on a whole line (R180), the imaginary pixel before it white. -/
theorem firstOnLine_cases (hit : Colour → Colour → Bool) (start : Nat) (l : List Colour) :
    (∃ x, firstOnLine hit start l = some x ∧ x < l.length ∧ start ≤ x ∧
        hit (before .white l x) (l.getD x .white) = true ∧
        ∀ y < x, start ≤ y → hit (before .white l y) (l.getD y .white) = false) ∨
      (firstOnLine hit start l = none ∧
        ∀ y < l.length, start ≤ y → hit (before .white l y) (l.getD y .white) = false) := by
  simpa [firstOnLine] using firstFrom_cases hit start .white 0 l

/-- The colour before a pixel of the reference line (R180). -/
theorem State.refBefore_eq (s : State) (x : Nat) : s.refBefore x = before .white s.ref x := rfl

/-- The search for b1 sees what `opposesAt` says. -/
theorem State.opposesAt_iff (s : State) (x : Nat) :
    s.opposesAt x ↔
      (before .white s.ref x != s.ref.getD x .white && s.ref.getD x .white == s.color.opp) = true := by
  simp only [State.opposesAt, State.changesAt, State.refBefore_eq, State.refAt, ne_eq, Bool.and_eq_true, bne_iff_ne,
    beq_iff_eq, eq_comm (a := before .white s.ref x)]

/-- The search for b2 sees what `changesAt` says. -/
theorem State.changesAt_iff (s : State) (x : Nat) :
    s.changesAt x ↔ (before .white s.ref x != s.ref.getD x .white) = true := by
  simp only [State.changesAt, State.refBefore_eq, State.refAt, ne_eq, bne_iff_ne, eq_comm (a := before .white s.ref x)]

end Sys2Proof.Machine
end

