-- ==== Sys2Proof/Laws/Memory.lean ====
section
/-! SUPPORT. The laws of the output bytes: reading after writing, and the canonical form. -/

namespace Sys2Proof.Machine

@[simp] theorem Memory.read_nil (a : Nat) : Memory.read [] a = none := rfl

/-- A write is read back at its address and changes no other address. -/
theorem Memory.read_write (m : Memory) (a : Nat) (b : Byte) (x : Nat) :
    (m.write a b).read x = if x = a then some b else m.read x := by
  induction m with
  | nil => simp [Memory.write, Memory.read, eq_comm]
  | cons p m ih =>
    obtain ⟨k, v⟩ := p
    simp only [Memory.write]
    split
    · simp [Memory.read, eq_comm]
    · split
      · subst_vars; by_cases h : x = k <;> simp [Memory.read, h, eq_comm]
      · by_cases h : k = x
        · subst h; simp [Memory.read]; omega
        · simp [Memory.read, h, ih]

/-- The addresses of a write are the address and those that were there. -/
theorem Memory.mem_write {m : Memory} {a : Nat} {b : Byte} {p : Host.Cell} (h : p ∈ m.write a b) :
    p = (a, b) ∨ p ∈ m := by
  induction m with
  | nil => simpa [Memory.write] using h
  | cons q m ih =>
    obtain ⟨k, v⟩ := q
    simp only [Memory.write] at h
    split at h
    · simpa using h
    · split at h
      · simp only [List.mem_cons] at h ⊢; tauto
      · simp only [List.mem_cons] at h ⊢; tauto

/-- A write keeps the canonical form. -/
theorem Memory.wf_write {m : Memory} (h : m.wf) (a : Nat) (b : Byte) : (m.write a b).wf := by
  induction m with
  | nil => simp [Memory.write, Memory.wf]
  | cons q m ih =>
    obtain ⟨k, v⟩ := q
    have hq := List.pairwise_cons.1 h
    simp only [Memory.write]
    split
    · refine List.pairwise_cons.2 ⟨fun p hp => ?_, h⟩
      rcases List.mem_cons.1 hp with rfl | hp
      · assumption
      · have := hq.1 p hp; dsimp only at this ⊢; omega
    · split
      · subst_vars; exact List.pairwise_cons.2 ⟨hq.1, hq.2⟩
      · refine List.pairwise_cons.2 ⟨fun p hp => ?_, ih hq.2⟩
        rcases Memory.mem_write hp with rfl | hp
        · dsimp only; omega
        · exact hq.1 p hp

/-- Writing a line keeps the canonical form. -/
theorem Memory.wf_writeLine {m : Memory} (h : m.wf) (a : Nat) (bs : List Byte) : (m.writeLine a bs).wf := by
  induction bs generalizing m a with
  | nil => exact h
  | cons b bs ih => exact ih (Memory.wf_write h a b) (a + 1)

/-- A line is read back byte by byte, and every other address reads as before. -/
theorem Memory.read_writeLine (m : Memory) (a : Nat) (bs : List Byte) (x : Nat) :
    (m.writeLine a bs).read x = if a ≤ x ∧ x < a + bs.length then bs[x - a]? else m.read x := by
  induction bs generalizing m a with
  | nil => simp [Memory.writeLine]
  | cons b bs ih =>
    rw [Memory.writeLine, ih, Memory.read_write]
    simp only [List.length_cons]
    by_cases h : x = a
    · subst h; simp
    · by_cases h1 : a + 1 ≤ x ∧ x < a + 1 + bs.length
      · have h2 : a ≤ x ∧ x < a + (bs.length + 1) := by omega
        have h3 : x - a = (x - (a + 1)) + 1 := by omega
        simp [h1, h2, h3]
      · have h2 : ¬(a ≤ x ∧ x < a + (bs.length + 1)) := by omega
        rw [if_neg h1, if_neg h2, if_neg h]

end Sys2Proof.Machine
end

