-- ==== Sys2Proof/Laws/PerInstr.lean ====
section
/-! SUPPORT. One lemma per instruction: the shape of its code (R81 to R84, R90) and the agreement of its payload with
the table it stands in. -/

namespace Sys2Proof.Laws

/-- The comparison width of the table a code stands in (R80, R81). -/
def windowBits (i : Sys2Proof.Instr) : Nat :=
  match i.kind with
  | .mode => 8
  | .endOfBlock => 24
  | .whiteTerminating | .whiteMakeUp | .blackTerminating | .blackMakeUp | .extendedMakeUp => 16

/-- The payload's colour and sort are those of the table (R83). -/
def payloadFits (i : Sys2Proof.Instr) : Bool :=
  match i.kind, i.payload with
  | .mode, .mode _ => true
  | .whiteTerminating, .run (some .white) .terminating n => decide (n ≤ 63)
  | .blackTerminating, .run (some .black) .terminating n => decide (n ≤ 63)
  | .whiteMakeUp, .run (some .white) .makeUp n => decide (n ≤ 26)
  | .blackMakeUp, .run (some .black) .makeUp n => decide (n ≤ 26)
  | .extendedMakeUp, .run none .extended n => decide (n ≤ 12)
  | .endOfBlock, .endOfBlock => true
  | _, _ => false

/-- A code has at least one bit and fits its comparison window, its string fits its length, a run code has at least two
bits (R144), and its payload is that of its table. -/
abbrev CodeShape.Statement (i : Sys2Proof.Instr) : Prop :=
  1 ≤ i.code.len ∧ i.code.len ≤ windowBits i ∧ i.code.bits < 2 ^ i.code.len ∧
    (windowBits i = 16 → 2 ≤ i.code.len) ∧ payloadFits i = true

theorem CodeShape.v0 : CodeShape.Statement .v0 := by decide
theorem CodeShape.vr1 : CodeShape.Statement .vr1 := by decide
theorem CodeShape.vl1 : CodeShape.Statement .vl1 := by decide
theorem CodeShape.h : CodeShape.Statement .h := by decide
theorem CodeShape.p : CodeShape.Statement .p := by decide
theorem CodeShape.vr2 : CodeShape.Statement .vr2 := by decide
theorem CodeShape.vl2 : CodeShape.Statement .vl2 := by decide
theorem CodeShape.vr3 : CodeShape.Statement .vr3 := by decide
theorem CodeShape.vl3 : CodeShape.Statement .vl3 := by decide
theorem CodeShape.ext : CodeShape.Statement .ext := by decide
theorem CodeShape.wt0 : CodeShape.Statement .wt0 := by decide
theorem CodeShape.wt1 : CodeShape.Statement .wt1 := by decide
theorem CodeShape.wt2 : CodeShape.Statement .wt2 := by decide
theorem CodeShape.wt3 : CodeShape.Statement .wt3 := by decide
theorem CodeShape.wt4 : CodeShape.Statement .wt4 := by decide
theorem CodeShape.wt5 : CodeShape.Statement .wt5 := by decide
theorem CodeShape.wt6 : CodeShape.Statement .wt6 := by decide
theorem CodeShape.wt7 : CodeShape.Statement .wt7 := by decide
theorem CodeShape.wt8 : CodeShape.Statement .wt8 := by decide
theorem CodeShape.wt9 : CodeShape.Statement .wt9 := by decide
theorem CodeShape.wt10 : CodeShape.Statement .wt10 := by decide
theorem CodeShape.wt11 : CodeShape.Statement .wt11 := by decide
theorem CodeShape.wt12 : CodeShape.Statement .wt12 := by decide
theorem CodeShape.wt13 : CodeShape.Statement .wt13 := by decide
theorem CodeShape.wt14 : CodeShape.Statement .wt14 := by decide
theorem CodeShape.wt15 : CodeShape.Statement .wt15 := by decide
theorem CodeShape.wt16 : CodeShape.Statement .wt16 := by decide
theorem CodeShape.wt17 : CodeShape.Statement .wt17 := by decide
theorem CodeShape.wt18 : CodeShape.Statement .wt18 := by decide
theorem CodeShape.wt19 : CodeShape.Statement .wt19 := by decide
theorem CodeShape.wt20 : CodeShape.Statement .wt20 := by decide
theorem CodeShape.wt21 : CodeShape.Statement .wt21 := by decide
theorem CodeShape.wt22 : CodeShape.Statement .wt22 := by decide
theorem CodeShape.wt23 : CodeShape.Statement .wt23 := by decide
theorem CodeShape.wt24 : CodeShape.Statement .wt24 := by decide
theorem CodeShape.wt25 : CodeShape.Statement .wt25 := by decide
theorem CodeShape.wt26 : CodeShape.Statement .wt26 := by decide
theorem CodeShape.wt27 : CodeShape.Statement .wt27 := by decide
theorem CodeShape.wt28 : CodeShape.Statement .wt28 := by decide
theorem CodeShape.wt29 : CodeShape.Statement .wt29 := by decide
theorem CodeShape.wt30 : CodeShape.Statement .wt30 := by decide
theorem CodeShape.wt31 : CodeShape.Statement .wt31 := by decide
theorem CodeShape.wt32 : CodeShape.Statement .wt32 := by decide
theorem CodeShape.wt33 : CodeShape.Statement .wt33 := by decide
theorem CodeShape.wt34 : CodeShape.Statement .wt34 := by decide
theorem CodeShape.wt35 : CodeShape.Statement .wt35 := by decide
theorem CodeShape.wt36 : CodeShape.Statement .wt36 := by decide
theorem CodeShape.wt37 : CodeShape.Statement .wt37 := by decide
theorem CodeShape.wt38 : CodeShape.Statement .wt38 := by decide
theorem CodeShape.wt39 : CodeShape.Statement .wt39 := by decide
theorem CodeShape.wt40 : CodeShape.Statement .wt40 := by decide
theorem CodeShape.wt41 : CodeShape.Statement .wt41 := by decide
theorem CodeShape.wt42 : CodeShape.Statement .wt42 := by decide
theorem CodeShape.wt43 : CodeShape.Statement .wt43 := by decide
theorem CodeShape.wt44 : CodeShape.Statement .wt44 := by decide
theorem CodeShape.wt45 : CodeShape.Statement .wt45 := by decide
theorem CodeShape.wt46 : CodeShape.Statement .wt46 := by decide
theorem CodeShape.wt47 : CodeShape.Statement .wt47 := by decide
theorem CodeShape.wt48 : CodeShape.Statement .wt48 := by decide
theorem CodeShape.wt49 : CodeShape.Statement .wt49 := by decide
theorem CodeShape.wt50 : CodeShape.Statement .wt50 := by decide
theorem CodeShape.wt51 : CodeShape.Statement .wt51 := by decide
theorem CodeShape.wt52 : CodeShape.Statement .wt52 := by decide
theorem CodeShape.wt53 : CodeShape.Statement .wt53 := by decide
theorem CodeShape.wt54 : CodeShape.Statement .wt54 := by decide
theorem CodeShape.wt55 : CodeShape.Statement .wt55 := by decide
theorem CodeShape.wt56 : CodeShape.Statement .wt56 := by decide
theorem CodeShape.wt57 : CodeShape.Statement .wt57 := by decide
theorem CodeShape.wt58 : CodeShape.Statement .wt58 := by decide
theorem CodeShape.wt59 : CodeShape.Statement .wt59 := by decide
theorem CodeShape.wt60 : CodeShape.Statement .wt60 := by decide
theorem CodeShape.wt61 : CodeShape.Statement .wt61 := by decide
theorem CodeShape.wt62 : CodeShape.Statement .wt62 := by decide
theorem CodeShape.wt63 : CodeShape.Statement .wt63 := by decide
theorem CodeShape.wm64 : CodeShape.Statement .wm64 := by decide
theorem CodeShape.wm128 : CodeShape.Statement .wm128 := by decide
theorem CodeShape.wm192 : CodeShape.Statement .wm192 := by decide
theorem CodeShape.wm256 : CodeShape.Statement .wm256 := by decide
theorem CodeShape.wm320 : CodeShape.Statement .wm320 := by decide
theorem CodeShape.wm384 : CodeShape.Statement .wm384 := by decide
theorem CodeShape.wm448 : CodeShape.Statement .wm448 := by decide
theorem CodeShape.wm512 : CodeShape.Statement .wm512 := by decide
theorem CodeShape.wm576 : CodeShape.Statement .wm576 := by decide
theorem CodeShape.wm640 : CodeShape.Statement .wm640 := by decide
theorem CodeShape.wm704 : CodeShape.Statement .wm704 := by decide
theorem CodeShape.wm768 : CodeShape.Statement .wm768 := by decide
theorem CodeShape.wm832 : CodeShape.Statement .wm832 := by decide
theorem CodeShape.wm896 : CodeShape.Statement .wm896 := by decide
theorem CodeShape.wm960 : CodeShape.Statement .wm960 := by decide
theorem CodeShape.wm1024 : CodeShape.Statement .wm1024 := by decide
theorem CodeShape.wm1088 : CodeShape.Statement .wm1088 := by decide
theorem CodeShape.wm1152 : CodeShape.Statement .wm1152 := by decide
theorem CodeShape.wm1216 : CodeShape.Statement .wm1216 := by decide
theorem CodeShape.wm1280 : CodeShape.Statement .wm1280 := by decide
theorem CodeShape.wm1344 : CodeShape.Statement .wm1344 := by decide
theorem CodeShape.wm1408 : CodeShape.Statement .wm1408 := by decide
theorem CodeShape.wm1472 : CodeShape.Statement .wm1472 := by decide
theorem CodeShape.wm1536 : CodeShape.Statement .wm1536 := by decide
theorem CodeShape.wm1600 : CodeShape.Statement .wm1600 := by decide
theorem CodeShape.wm1664 : CodeShape.Statement .wm1664 := by decide
theorem CodeShape.wm1728 : CodeShape.Statement .wm1728 := by decide
theorem CodeShape.bt0 : CodeShape.Statement .bt0 := by decide
theorem CodeShape.bt1 : CodeShape.Statement .bt1 := by decide
theorem CodeShape.bt2 : CodeShape.Statement .bt2 := by decide
theorem CodeShape.bt3 : CodeShape.Statement .bt3 := by decide
theorem CodeShape.bt4 : CodeShape.Statement .bt4 := by decide
theorem CodeShape.bt5 : CodeShape.Statement .bt5 := by decide
theorem CodeShape.bt6 : CodeShape.Statement .bt6 := by decide
theorem CodeShape.bt7 : CodeShape.Statement .bt7 := by decide
theorem CodeShape.bt8 : CodeShape.Statement .bt8 := by decide
theorem CodeShape.bt9 : CodeShape.Statement .bt9 := by decide
theorem CodeShape.bt10 : CodeShape.Statement .bt10 := by decide
theorem CodeShape.bt11 : CodeShape.Statement .bt11 := by decide
theorem CodeShape.bt12 : CodeShape.Statement .bt12 := by decide
theorem CodeShape.bt13 : CodeShape.Statement .bt13 := by decide
theorem CodeShape.bt14 : CodeShape.Statement .bt14 := by decide
theorem CodeShape.bt15 : CodeShape.Statement .bt15 := by decide
theorem CodeShape.bt16 : CodeShape.Statement .bt16 := by decide
theorem CodeShape.bt17 : CodeShape.Statement .bt17 := by decide
theorem CodeShape.bt18 : CodeShape.Statement .bt18 := by decide
theorem CodeShape.bt19 : CodeShape.Statement .bt19 := by decide
theorem CodeShape.bt20 : CodeShape.Statement .bt20 := by decide
theorem CodeShape.bt21 : CodeShape.Statement .bt21 := by decide
theorem CodeShape.bt22 : CodeShape.Statement .bt22 := by decide
theorem CodeShape.bt23 : CodeShape.Statement .bt23 := by decide
theorem CodeShape.bt24 : CodeShape.Statement .bt24 := by decide
theorem CodeShape.bt25 : CodeShape.Statement .bt25 := by decide
theorem CodeShape.bt26 : CodeShape.Statement .bt26 := by decide
theorem CodeShape.bt27 : CodeShape.Statement .bt27 := by decide
theorem CodeShape.bt28 : CodeShape.Statement .bt28 := by decide
theorem CodeShape.bt29 : CodeShape.Statement .bt29 := by decide
theorem CodeShape.bt30 : CodeShape.Statement .bt30 := by decide
theorem CodeShape.bt31 : CodeShape.Statement .bt31 := by decide
theorem CodeShape.bt32 : CodeShape.Statement .bt32 := by decide
theorem CodeShape.bt33 : CodeShape.Statement .bt33 := by decide
theorem CodeShape.bt34 : CodeShape.Statement .bt34 := by decide
theorem CodeShape.bt35 : CodeShape.Statement .bt35 := by decide
theorem CodeShape.bt36 : CodeShape.Statement .bt36 := by decide
theorem CodeShape.bt37 : CodeShape.Statement .bt37 := by decide
theorem CodeShape.bt38 : CodeShape.Statement .bt38 := by decide
theorem CodeShape.bt39 : CodeShape.Statement .bt39 := by decide
theorem CodeShape.bt40 : CodeShape.Statement .bt40 := by decide
theorem CodeShape.bt41 : CodeShape.Statement .bt41 := by decide
theorem CodeShape.bt42 : CodeShape.Statement .bt42 := by decide
theorem CodeShape.bt43 : CodeShape.Statement .bt43 := by decide
theorem CodeShape.bt44 : CodeShape.Statement .bt44 := by decide
theorem CodeShape.bt45 : CodeShape.Statement .bt45 := by decide
theorem CodeShape.bt46 : CodeShape.Statement .bt46 := by decide
theorem CodeShape.bt47 : CodeShape.Statement .bt47 := by decide
theorem CodeShape.bt48 : CodeShape.Statement .bt48 := by decide
theorem CodeShape.bt49 : CodeShape.Statement .bt49 := by decide
theorem CodeShape.bt50 : CodeShape.Statement .bt50 := by decide
theorem CodeShape.bt51 : CodeShape.Statement .bt51 := by decide
theorem CodeShape.bt52 : CodeShape.Statement .bt52 := by decide
theorem CodeShape.bt53 : CodeShape.Statement .bt53 := by decide
theorem CodeShape.bt54 : CodeShape.Statement .bt54 := by decide
theorem CodeShape.bt55 : CodeShape.Statement .bt55 := by decide
theorem CodeShape.bt56 : CodeShape.Statement .bt56 := by decide
theorem CodeShape.bt57 : CodeShape.Statement .bt57 := by decide
theorem CodeShape.bt58 : CodeShape.Statement .bt58 := by decide
theorem CodeShape.bt59 : CodeShape.Statement .bt59 := by decide
theorem CodeShape.bt60 : CodeShape.Statement .bt60 := by decide
theorem CodeShape.bt61 : CodeShape.Statement .bt61 := by decide
theorem CodeShape.bt62 : CodeShape.Statement .bt62 := by decide
theorem CodeShape.bt63 : CodeShape.Statement .bt63 := by decide
theorem CodeShape.bm64 : CodeShape.Statement .bm64 := by decide
theorem CodeShape.bm128 : CodeShape.Statement .bm128 := by decide
theorem CodeShape.bm192 : CodeShape.Statement .bm192 := by decide
theorem CodeShape.bm256 : CodeShape.Statement .bm256 := by decide
theorem CodeShape.bm320 : CodeShape.Statement .bm320 := by decide
theorem CodeShape.bm384 : CodeShape.Statement .bm384 := by decide
theorem CodeShape.bm448 : CodeShape.Statement .bm448 := by decide
theorem CodeShape.bm512 : CodeShape.Statement .bm512 := by decide
theorem CodeShape.bm576 : CodeShape.Statement .bm576 := by decide
theorem CodeShape.bm640 : CodeShape.Statement .bm640 := by decide
theorem CodeShape.bm704 : CodeShape.Statement .bm704 := by decide
theorem CodeShape.bm768 : CodeShape.Statement .bm768 := by decide
theorem CodeShape.bm832 : CodeShape.Statement .bm832 := by decide
theorem CodeShape.bm896 : CodeShape.Statement .bm896 := by decide
theorem CodeShape.bm960 : CodeShape.Statement .bm960 := by decide
theorem CodeShape.bm1024 : CodeShape.Statement .bm1024 := by decide
theorem CodeShape.bm1088 : CodeShape.Statement .bm1088 := by decide
theorem CodeShape.bm1152 : CodeShape.Statement .bm1152 := by decide
theorem CodeShape.bm1216 : CodeShape.Statement .bm1216 := by decide
theorem CodeShape.bm1280 : CodeShape.Statement .bm1280 := by decide
theorem CodeShape.bm1344 : CodeShape.Statement .bm1344 := by decide
theorem CodeShape.bm1408 : CodeShape.Statement .bm1408 := by decide
theorem CodeShape.bm1472 : CodeShape.Statement .bm1472 := by decide
theorem CodeShape.bm1536 : CodeShape.Statement .bm1536 := by decide
theorem CodeShape.bm1600 : CodeShape.Statement .bm1600 := by decide
theorem CodeShape.bm1664 : CodeShape.Statement .bm1664 := by decide
theorem CodeShape.bm1728 : CodeShape.Statement .bm1728 := by decide
theorem CodeShape.xm1792 : CodeShape.Statement .xm1792 := by decide
theorem CodeShape.xm1856 : CodeShape.Statement .xm1856 := by decide
theorem CodeShape.xm1920 : CodeShape.Statement .xm1920 := by decide
theorem CodeShape.xm1984 : CodeShape.Statement .xm1984 := by decide
theorem CodeShape.xm2048 : CodeShape.Statement .xm2048 := by decide
theorem CodeShape.xm2112 : CodeShape.Statement .xm2112 := by decide
theorem CodeShape.xm2176 : CodeShape.Statement .xm2176 := by decide
theorem CodeShape.xm2240 : CodeShape.Statement .xm2240 := by decide
theorem CodeShape.xm2304 : CodeShape.Statement .xm2304 := by decide
theorem CodeShape.xm2368 : CodeShape.Statement .xm2368 := by decide
theorem CodeShape.xm2432 : CodeShape.Statement .xm2432 := by decide
theorem CodeShape.xm2496 : CodeShape.Statement .xm2496 := by decide
theorem CodeShape.xm2560 : CodeShape.Statement .xm2560 := by decide
theorem CodeShape.eob : CodeShape.Statement .eob := by decide

end Sys2Proof.Laws
end

