-- ==== Sys2Proof/Laws/Step.lean ====
section
/-! SUPPORT. The step: one lemma for each row of R170, what each place inside a launch can answer, and what no step of a
launch changes. -/

namespace Sys2Proof.Machine

/-- RST wins in any phase (R260). -/
theorem step_rst {s : State} (h : s.pins.rst = true) : step s = .next (applyReset s) := by
  simp [step, transition, h]

/-- START in IDLE or DONE (R262). -/
theorem step_start {s : State} (hp : s.phase.coding = false) (hr : s.pins.rst = false) (hs : s.pins.start = true) :
    step s = .next (applyStart s) := by
  cases h : s.phase <;> simp_all [step, transition, Phase.coding]

/-- Nothing happens in IDLE or DONE without START (R170). -/
theorem step_rest {s : State} (hp : s.phase.coding = false) (hr : s.pins.rst = false) (hs : s.pins.start = false) :
    step s = .next s := by
  cases h : s.phase <;> simp_all [step, transition, Phase.coding]

/-- Inside a launch a START pulse is only taken down (R264). -/
theorem step_launch {s : State} (hp : s.phase.coding = true) (hr : s.pins.rst = false) :
    step s = launchStep s.dropStart := by
  cases h : s.phase <;> simp_all [step, transition, Phase.coding]

/-- The rows of R170, all together. -/
theorem step_cases (s : State) :
    (s.pins.rst = true ∧ step s = .next (applyReset s)) ∨
      (s.pins.rst = false ∧ s.phase.coding = false ∧ s.pins.start = true ∧ step s = .next (applyStart s)) ∨
      (s.pins.rst = false ∧ s.phase.coding = false ∧ s.pins.start = false ∧ step s = .next s) ∨
      (s.pins.rst = false ∧ s.phase.coding = true ∧ step s = launchStep s.dropStart) := by
  cases hr : s.pins.rst
  · cases hp : s.phase.coding
    · cases hs : s.pins.start
      · exact .inr (.inr (.inl ⟨rfl, rfl, rfl, step_rest hp hr hs⟩))
      · exact .inr (.inl ⟨rfl, rfl, rfl, step_start hp hr hs⟩)
    · exact .inr (.inr (.inr ⟨rfl, rfl, step_launch hp hr⟩))
  · exact .inl ⟨rfl, step_rst hr⟩

/-- `Start` (R262, R243): a launch with the START values, or CONFIG_INVALID. -/
theorem applyStart_cases (s : State) :
    (s.configValid = true ∧ applyStart s = beginLaunch s.pins.width s.pins.invert s.pins.src s.dropStart) ∨
      (s.configValid = false ∧ applyStart s = endLaunch true .configInvalid s.dropStart.clearStatus) := by
  unfold applyStart
  cases h : s.configValid <;> simp

/-- The top of a coding step (R171): the checks in their order, then the meaning of the mode code. -/
theorem codingStep_cases (s : State) :
    (s.win.hasRemaining = false ∧ codingStep s = .next (endLaunch false .endOfInput s)) ∨
      (s.win.hasRemaining = true ∧ s.win.buffer = 0 ∧ codingStep s = .next (endLaunch false .zeroLookahead s)) ∨
      (s.win.hasRemaining = true ∧ s.win.buffer ≠ 0 ∧ modeMatch s.win.peek8.1 = none ∧
        codingStep s = .next (endLaunch false .unrecognizedMode s)) ∨
      ∃ i, s.win.hasRemaining = true ∧ s.win.buffer ≠ 0 ∧ modeMatch s.win.peek8.1 = some i ∧
        i.wellFormed .mode = true ∧ codingStep s = exec i s := by
  unfold codingStep
  cases hr : s.win.hasRemaining
  · exact .inl ⟨rfl, by simp⟩
  · by_cases hb : s.win.buffer = 0
    · exact .inr (.inl ⟨rfl, hb, by rw [if_pos rfl, if_pos (show s.win.peek32.1 = 0 from hb)]; rfl⟩)
    · have hb' : ¬ s.win.peek32.1 = 0 := hb
      rw [if_pos rfl, if_neg hb']
      cases hm : modeMatch s.win.peek8.1 with
      | none => exact .inr (.inr (.inl ⟨rfl, hb, rfl, rfl⟩))
      | some i => exact .inr (.inr (.inr ⟨i, rfl, hb, rfl, modeMatch_wellFormed hm, rfl⟩))

/-- One code of a run (R143): the checks in their order, then the meaning of the run code. -/
theorem runCodeStep_cases (c : Colour) (s : State) :
    (s.win.valid = 0 ∧ runCodeStep c s = .next (endLaunch true .unexpectedEnd s)) ∨
      (0 < s.win.valid ∧ runMatch s.win.peek16.1 c = none ∧
        runCodeStep c s = .next (endLaunch true .corruptRunCode s)) ∨
      ∃ i, 0 < s.win.valid ∧ runMatch s.win.peek16.1 c = some i ∧ i.wellFormed (.run c) = true ∧
        runCodeStep c s = execRunCode i s := by
  unfold runCodeStep
  by_cases hv : s.win.valid = 0
  · exact .inl ⟨hv, by simp [hv]⟩
  · have hv' : 0 < s.win.valid := by omega
    cases hm : runMatch s.win.peek16.1 c with
    | none => exact .inr (.inl ⟨hv', rfl, by simp [hv]⟩)
    | some i =>
      have hw := runMatch_wellFormed hm
      exact .inr (.inr ⟨i, hv', rfl, hw, by simp [hv, exec_runCode hw]⟩)

/-! What no step of a launch changes. -/

/-- The parts of the state a launch never writes: the build, the pins, the latched source, width and polarity. -/
structure SameLaunch (s t : State) : Prop where
  cfg : t.cfg = s.cfg
  pins : t.pins = s.pins
  source : t.win.source = s.win.source
  width : t.width = s.width
  invert : t.invert = s.invert

theorem SameLaunch.refl (s : State) : SameLaunch s s := ⟨rfl, rfl, rfl, rfl, rfl⟩

theorem SameLaunch.trans {s t u : State} (h : SameLaunch s t) (k : SameLaunch t u) : SameLaunch s u :=
  ⟨k.cfg.trans h.cfg, k.pins.trans h.pins, k.source.trans h.source, k.width.trans h.width, k.invert.trans h.invert⟩

theorem sameLaunch_onlyRead {s t : State} (h : onlyRead s t) : SameLaunch s t := by
  refine ⟨?_, ?_, h.2, ?_, ?_⟩ <;> rw [h.1]

theorem sameLaunch_consume (n : Nat) (s : State) : SameLaunch s (s.consume n) :=
  ⟨rfl, rfl, Window.consume_source n s.win, rfl, rfl⟩

theorem sameLaunch_consumeMode (i : Instr) (s : State) : SameLaunch s (consumeMode i s) :=
  ⟨rfl, rfl, Window.consume_source i.code.len s.win, rfl, rfl⟩

theorem sameLaunch_checkEndOfBlock (s : State) : SameLaunch s s.checkEndOfBlock := by
  rcases s.checkEndOfBlock_cases with ⟨_, h⟩ | ⟨_, h⟩ <;> rw [h] <;> exact ⟨rfl, rfl, rfl, rfl, rfl⟩

theorem sameLaunch_completeLine {s t : State} (h : completeLine s = .next t) : SameLaunch s t := by
  rcases completeLine_cases s with ⟨_, e⟩ | ⟨_, _, e⟩ | ⟨px, _, _, e⟩ <;> rw [e] at h
  · cases h; exact ⟨rfl, rfl, rfl, rfl, rfl⟩
  · cases h
  · cases h
    exact SameLaunch.trans (t := (s.emit px).newLine px) ⟨rfl, rfl, rfl, rfl, rfl⟩ (sameLaunch_checkEndOfBlock _)

theorem sameLaunch_finishStep {s t : State} (h : finishStep s = .next t) : SameLaunch s t := by
  rcases finishStep_cases s with ⟨_, e⟩ | ⟨_, e⟩ <;> rw [e] at h
  · cases h; exact ⟨rfl, rfl, rfl, rfl, rfl⟩
  · exact sameLaunch_completeLine h

/-- An action that keeps the launch makes a mode code that keeps it. -/
theorem sameLaunch_execMode {i : Instr} {action : State → ActionEnd}
    (ha : ∀ u v, action u = .goesOn v ∨ action u = .ended v → SameLaunch u v) {s t : State}
    (h : execMode i action s = .next t) : SameLaunch s t := by
  by_cases hr : s.ready
  · rcases execMode_ready hr i action with ⟨_, e⟩ | ⟨_, ⟨u, hu, e⟩ | ⟨u, hu, e⟩⟩ <;> rw [e] at h
    · cases h; exact ⟨rfl, rfl, rfl, rfl, rfl⟩
    · cases h; exact (sameLaunch_consumeMode i s).trans (ha _ _ (.inr hu))
    · exact ((sameLaunch_consumeMode i s).trans (ha _ _ (.inl hu))).trans (sameLaunch_finishStep h)
  · rw [execMode_outOfContext hr] at h; cases h

theorem sameLaunch_pass (u v : State) (h : passAction u = .goesOn v ∨ passAction u = .ended v) : SameLaunch u v := by
  unfold passAction at h
  rcases h with h | h <;> cases h
  exact ⟨rfl, rfl, rfl, rfl, rfl⟩

theorem sameLaunch_vertical (k : Int) (u v : State)
    (h : verticalAction k u = .goesOn v ∨ verticalAction k u = .ended v) : SameLaunch u v := by
  unfold verticalAction at h
  split at h <;> rcases h with h | h <;> cases h <;> exact ⟨rfl, rfl, rfl, rfl, rfl⟩

theorem sameLaunch_horizontal (u v : State)
    (h : horizontalAction u = .goesOn v ∨ horizontalAction u = .ended v) : SameLaunch u v := by
  rcases horizontalAction_cases u with ⟨r1, r2, t, e, k⟩ | ⟨c, t, e, k⟩ <;> rw [e] at h <;>
    rcases h with h | h <;> cases h
  · exact (sameLaunch_onlyRead k).trans ⟨rfl, rfl, rfl, rfl, rfl⟩
  · exact (sameLaunch_onlyRead k).trans ⟨rfl, rfl, rfl, rfl, rfl⟩

/-- No meaning writes the build, the pins, or what a launch latched. -/
theorem sameLaunch_exec {i : Instr} {s t : State} (h : exec i s = .next t) : SameLaunch s t := by
  by_cases hm : i.wellFormed .mode = true
  · rcases mode_cases hm with rfl | rfl | rfl | ⟨k, hk⟩
    · exact sameLaunch_execMode sameLaunch_pass h
    · exact sameLaunch_execMode sameLaunch_horizontal h
    · rw [exec_ext, execUnrecognized] at h
      split at h <;> cases h
      exact ⟨rfl, rfl, rfl, rfl, rfl⟩
    · rw [exec_vertical hk] at h
      exact sameLaunch_execMode (sameLaunch_vertical k) h
  · by_cases he : i = .eob
    · subst he
      rw [exec_eob, execEob] at h
      split at h <;> cases h
      exact ⟨rfl, rfl, rfl, rfl, rfl⟩
    · have hc : ∃ c, i.wellFormed (.run c) = true := by
        cases i <;> first
          | exact ⟨.white, rfl⟩
          | exact ⟨.black, rfl⟩
          | exact absurd rfl hm
          | exact absurd rfl he
      obtain ⟨c, hc⟩ := hc
      rw [exec_runCode hc] at h
      unfold execRunCode at h
      split at h
      · split at h
        · cases h; exact ⟨rfl, rfl, rfl, rfl, rfl⟩
        · refine (sameLaunch_consume i.code.len s).trans ?_
          unfold addRun at h
          split at h
          · cases h; exact ⟨rfl, rfl, rfl, rfl, rfl⟩
          · split at h
            · exact SameLaunch.trans (t := horizontalFill _ _ (s.consume i.code.len)) ⟨rfl, rfl, rfl, rfl, rfl⟩
                (sameLaunch_finishStep h)
            · cases h; exact ⟨rfl, rfl, rfl, rfl, rfl⟩
          · cases h
          · cases h
      · cases h

end Sys2Proof.Machine
end

