-- ==== Sys2Proof/Tests/Slice0.lean ====
section
/-! SUPPORT. The model's own tests. Expected values are the spec's: the `value` columns of the code tables and the vectors
of 95_test_vectors.md, named in each docstring. The last part shows, for each obligation that has hypotheses, a
concrete case that meets them. -/

namespace Sys2Proof.Tests

open Sys2Proof Sys2Proof.Machine

/-! Short names for the values of the vectors. -/

abbrev W : Colour := .white
abbrev B : Colour := .black

/-- A line under construction: the written pixels, then `n` unwritten ones (a `.` of the vectors each). -/
def cur (written : List Colour) (n : Nat) : List (Option Colour) := written.map some ++ List.replicate n none

/-- The reference line of most vectors. -/
def refA : List Colour := [W, W, B, B, B, W, W, W]

def white8 : List Colour := [W, W, W, W, W, W, W, W]

/-- The state of a coding-step vector (95_test_vectors.md section 6): width 8, `src` from its first bit. -/
def lineState (ref : List Colour) (a0 : Nat) (color : Colour) (cur : List (Option Colour)) (src : List Byte) : State :=
  { beginLaunch 8 false src State.reset with
      ref := ref, a0 := a0, color := color, cur := cur, phase := if a0 = 0 then .between else .within }

/-- The same under `P_H_COLOR = FLIP`. -/
def flip (s : State) : State := { s with cfg := { s.cfg with hColor := .flip } }

/-- What a coding-step vector compares: `cur`, `a0`, `color` and the cause. -/
def lineAfter : Result → Option (List (Option Colour) × Nat × Colour × Cause)
  | .next t => some (t.cur, t.a0, t.color, t.status.cause)
  | .fault _ => none
  | .refused _ => none

/-- The emitted line: the reference line after the step, and `lines`. -/
def emitted : Result → Option (List Colour × Nat × Nat × Colour)
  | .next t => some (t.ref, t.lines, t.a0, t.color)
  | .fault _ => none
  | .refused _ => none

/-- The fields of the status a vector lists: LINES, CAUSE, ERROR, PARTIAL, CONSUMED. -/
def statusOf : Result → Option (Nat × Cause × Bool × Bool × Nat)
  | .next t => some (t.status.lines, t.status.cause, t.status.error, t.status.partialLine, t.status.consumed)
  | .fault _ => none
  | .refused _ => none

/-- The next state, if there is one. -/
def stateOf : Result → Option State
  | .next t => some t
  | .fault _ => none
  | .refused _ => none

def faultOf : Result → Option Fault
  | .next _ => none
  | .fault e => some e
  | .refused _ => none

def refusalOf : Result → Option Refusal
  | .next _ => none
  | .fault _ => none
  | .refused e => some e

/-- A launch about to begin: START is pulsed at the reset state. -/
def starting (width : Nat) (src : List Byte) : State :=
  { State.reset with pins := { start := true, rst := false, width := width, invert := false, src := src } }

/-- A window on bits that stand at the top of the buffer, with the source exhausted (95_test_vectors.md section 4). -/
def bitsAt (buffer : Acc) (valid : Nat) : Window :=
  { source := [0, 0, 0, 0], sourcePos := 4, buffer := buffer, emptyBits := 32 - valid }

/-- `DecodeRun` on such a window: the run or the cause, and the bits consumed. -/
def runOf (c : Colour) (buffer : Acc) (valid : Nat) : Option Nat × Cause × Nat :=
  match decodeRun c { State.reset with win := bitsAt buffer valid } with
  | .run n t => (some n, .none, valid - t.win.valid)
  | .ended t => (none, t.status.cause, valid - t.win.valid)

/-- Every window of the list decodes to its code. -/
def decodesAll (ctx : CodeContext) (rows : List (Acc × Instr)) : Bool :=
  rows.all fun r => match decodeWindow ctx r.1 with
    | .ok i => i == r.2
    | .error _ => false

/-! WellFormed: an ill-formed term for each check, refused. -/

theorem smoke_mode_code_is_no_run_code : Instr.wellFormed (.run .white) .v0 = false := by decide
theorem smoke_run_code_is_no_mode_code : Instr.wellFormed .mode .wt2 = false := by decide
theorem smoke_black_code_in_a_white_run : Instr.wellFormed (.run .white) .bt2 = false := by decide
theorem smoke_white_make_up_in_a_black_run : Instr.wellFormed (.run .black) .wm64 = false := by decide
theorem smoke_end_of_block_is_no_mode_code : Instr.wellFormed .mode .eob = false := by decide
theorem smoke_mode_code_is_no_end_of_block : Instr.wellFormed .endOfBlock .ext = false := by decide
theorem smoke_make_up_does_not_terminate : Instr.isTerminating .white .wm64 = false := by decide
theorem smoke_terminating_is_no_make_up : Instr.isMakeUp .black .bt0 = false := by decide
theorem smoke_empty_run : runWellFormed .white [] = false := by decide
theorem smoke_run_without_terminating_code : runWellFormed .white [.wm64, .xm1792] = false := by decide
theorem smoke_code_after_terminating_code : runWellFormed .black [.bt2, .bt3] = false := by decide
theorem smoke_runs_of_one_colour : twoRunsWellFormed .white [.wt2, .wt2] = false := by decide
theorem smoke_one_run_only : twoRunsWellFormed .white [.wt2] = false := by decide
theorem smoke_horizontal_without_runs : stepWellFormed .white [.h] = false := by decide
theorem smoke_ext_is_no_step : stepWellFormed .white [.ext] = false := by decide
theorem smoke_vertical_with_a_run : stepWellFormed .white [.v0, .wt2] = false := by decide
theorem smoke_well_formed_step : stepWellFormed .black [.h, .xm1792, .bt2, .wm64, .wt0] = true := by decide

/-! Decoding. -/

/-- R88: the end-of-block pattern, and a window one bit away from it. -/
theorem test_decode_end_of_block :
    decodeWindow .endOfBlock 0x001001FF = .ok .eob ∧ decodeWindow .endOfBlock 0x001000FF = .error .noEndOfBlock := by
  decide

/-- R95, R96: the windows no list matches are refused by name. -/
theorem test_decode_unmatched_windows :
    decodeWindow .mode 0x01FFFFFF = .error .noModeCode ∧ decodeWindow (.run .white) 0x00FFFFFF = .error .noRunCode ∧
      decodeWindow (.run .black) 0x00FFFFFF = .error .noRunCode := by decide

/-- TAB-2: one window is a white code in the white list and a black code in the black list. -/
theorem test_decode_depends_on_the_colour :
    decodeWindow (.run .white) 0xFFFF0000 = .ok .wt7 ∧ decodeWindow (.run .black) 0xFFFF0000 = .ok .bt2 := by decide

/-- Rows of spec/opcode_table.json as table words. The last word is also BT2's: a table word carries no colour, and the
white code is read (log entry 10). -/
theorem test_decode_table_words :
    decodeTableWord 8 0x20 = some .h ∧ decodeTableWord 16 0x7000 = some .wt2 ∧ decodeTableWord 16 0x0DC0 = some .bt0 ∧
      decodeTableWord 16 0x01F0 = some .xm2560 ∧ decodeTableWord 24 0x001001 = some .eob ∧
      decodeTableWord 8 0x01 = none ∧ decodeTableWord 16 0xC000 = some .wt5 := by decide

/-- The `value` column of R151, at the top of a 32-bit window. -/
theorem test_decode_mode_codes :
    decodesAll .mode
     [(0x80000000, .v0), (0x60000000, .vr1), (0x40000000, .vl1), (0x20000000, .h), (0x10000000, .p),
      (0x0C000000, .vr2), (0x08000000, .vl2), (0x06000000, .vr3), (0x04000000, .vl3), (0x02000000, .ext)] = true := by decide

/-- The `value` column of R133. -/
theorem test_decode_white_terminating_0 :
    decodesAll (.run .white)
     [(0x35000000, .wt0), (0x1C000000, .wt1), (0x70000000, .wt2), (0x80000000, .wt3), (0xB0000000, .wt4),
      (0xC0000000, .wt5), (0xE0000000, .wt6), (0xF0000000, .wt7), (0x98000000, .wt8), (0xA0000000, .wt9),
      (0x38000000, .wt10), (0x40000000, .wt11), (0x20000000, .wt12), (0x0C000000, .wt13),
      (0xD0000000, .wt14), (0xD4000000, .wt15), (0xA8000000, .wt16), (0xAC000000, .wt17),
      (0x4E000000, .wt18), (0x18000000, .wt19), (0x10000000, .wt20), (0x2E000000, .wt21)] = true := by decide

/-- The `value` column of R133. -/
theorem test_decode_white_terminating_1 :
    decodesAll (.run .white)
     [(0x06000000, .wt22), (0x08000000, .wt23), (0x50000000, .wt24), (0x56000000, .wt25),
      (0x26000000, .wt26), (0x48000000, .wt27), (0x30000000, .wt28), (0x02000000, .wt29),
      (0x03000000, .wt30), (0x1A000000, .wt31), (0x1B000000, .wt32), (0x12000000, .wt33),
      (0x13000000, .wt34), (0x14000000, .wt35), (0x15000000, .wt36), (0x16000000, .wt37),
      (0x17000000, .wt38), (0x28000000, .wt39), (0x29000000, .wt40), (0x2A000000, .wt41),
      (0x2B000000, .wt42), (0x2C000000, .wt43)] = true := by decide

/-- The `value` column of R133. -/
theorem test_decode_white_terminating_2 :
    decodesAll (.run .white)
     [(0x2D000000, .wt44), (0x04000000, .wt45), (0x05000000, .wt46), (0x0A000000, .wt47),
      (0x0B000000, .wt48), (0x52000000, .wt49), (0x53000000, .wt50), (0x54000000, .wt51),
      (0x55000000, .wt52), (0x24000000, .wt53), (0x25000000, .wt54), (0x58000000, .wt55),
      (0x59000000, .wt56), (0x5A000000, .wt57), (0x5B000000, .wt58), (0x4A000000, .wt59),
      (0x4B000000, .wt60), (0x32000000, .wt61), (0x33000000, .wt62), (0x34000000, .wt63)] = true := by decide

/-- The `value` column of R134. -/
theorem test_decode_white_make_up_0 :
    decodesAll (.run .white)
     [(0xD8000000, .wm64), (0x90000000, .wm128), (0x5C000000, .wm192), (0x6E000000, .wm256),
      (0x36000000, .wm320), (0x37000000, .wm384), (0x64000000, .wm448), (0x65000000, .wm512),
      (0x68000000, .wm576), (0x67000000, .wm640), (0x66000000, .wm704), (0x66800000, .wm768),
      (0x69000000, .wm832), (0x69800000, .wm896), (0x6A000000, .wm960), (0x6A800000, .wm1024),
      (0x6B000000, .wm1088), (0x6B800000, .wm1152), (0x6C000000, .wm1216), (0x6C800000, .wm1280),
      (0x6D000000, .wm1344), (0x6D800000, .wm1408)] = true := by decide

/-- The `value` column of R134. -/
theorem test_decode_white_make_up_1 :
    decodesAll (.run .white)
     [(0x4C000000, .wm1472), (0x4C800000, .wm1536), (0x4D000000, .wm1600), (0x60000000, .wm1664),
      (0x4D800000, .wm1728)] = true := by decide

/-- The `value` column of R135. -/
theorem test_decode_black_terminating_0 :
    decodesAll (.run .black)
     [(0x0DC00000, .bt0), (0x40000000, .bt1), (0xC0000000, .bt2), (0x80000000, .bt3), (0x60000000, .bt4),
      (0x30000000, .bt5), (0x20000000, .bt6), (0x18000000, .bt7), (0x14000000, .bt8), (0x10000000, .bt9),
      (0x08000000, .bt10), (0x0A000000, .bt11), (0x0E000000, .bt12), (0x04000000, .bt13),
      (0x07000000, .bt14), (0x0C000000, .bt15), (0x05C00000, .bt16), (0x06000000, .bt17),
      (0x02000000, .bt18), (0x0CE00000, .bt19), (0x0D000000, .bt20), (0x0D800000, .bt21)] = true := by decide

/-- The `value` column of R135. -/
theorem test_decode_black_terminating_1 :
    decodesAll (.run .black)
     [(0x06E00000, .bt22), (0x05000000, .bt23), (0x02E00000, .bt24), (0x03000000, .bt25),
      (0x0CA00000, .bt26), (0x0CB00000, .bt27), (0x0CC00000, .bt28), (0x0CD00000, .bt29),
      (0x06800000, .bt30), (0x06900000, .bt31), (0x06A00000, .bt32), (0x06B00000, .bt33),
      (0x0D200000, .bt34), (0x0D300000, .bt35), (0x0D400000, .bt36), (0x0D500000, .bt37),
      (0x0D600000, .bt38), (0x0D700000, .bt39), (0x06C00000, .bt40), (0x06D00000, .bt41),
      (0x0DA00000, .bt42), (0x0DB00000, .bt43)] = true := by decide

/-- The `value` column of R135. -/
theorem test_decode_black_terminating_2 :
    decodesAll (.run .black)
     [(0x05400000, .bt44), (0x05500000, .bt45), (0x05600000, .bt46), (0x05700000, .bt47),
      (0x06400000, .bt48), (0x06500000, .bt49), (0x05200000, .bt50), (0x05300000, .bt51),
      (0x02400000, .bt52), (0x03700000, .bt53), (0x03800000, .bt54), (0x02700000, .bt55),
      (0x02800000, .bt56), (0x05800000, .bt57), (0x05900000, .bt58), (0x02B00000, .bt59),
      (0x02C00000, .bt60), (0x05A00000, .bt61), (0x06600000, .bt62), (0x06700000, .bt63)] = true := by decide

/-- The `value` column of R136. -/
theorem test_decode_black_make_up_0 :
    decodesAll (.run .black)
     [(0x03C00000, .bm64), (0x0C800000, .bm128), (0x0C900000, .bm192), (0x05B00000, .bm256),
      (0x03300000, .bm320), (0x03400000, .bm384), (0x03500000, .bm448), (0x03600000, .bm512),
      (0x03680000, .bm576), (0x02500000, .bm640), (0x02580000, .bm704), (0x02600000, .bm768),
      (0x02680000, .bm832), (0x03900000, .bm896), (0x03980000, .bm960), (0x03A00000, .bm1024),
      (0x03A80000, .bm1088), (0x03B00000, .bm1152), (0x03B80000, .bm1216), (0x02900000, .bm1280),
      (0x02980000, .bm1344), (0x02A00000, .bm1408)] = true := by decide

/-- The `value` column of R136. -/
theorem test_decode_black_make_up_1 :
    decodesAll (.run .black)
     [(0x02A80000, .bm1472), (0x02D00000, .bm1536), (0x02D80000, .bm1600), (0x03200000, .bm1664),
      (0x03280000, .bm1728)] = true := by decide

/-- The `value` column of R137, in the white list. -/
theorem test_decode_extended_after_white :
    decodesAll (.run .white)
     [(0x01000000, .xm1792), (0x01800000, .xm1856), (0x01A00000, .xm1920), (0x01200000, .xm1984),
      (0x01300000, .xm2048), (0x01400000, .xm2112), (0x01500000, .xm2176), (0x01600000, .xm2240),
      (0x01700000, .xm2304), (0x01C00000, .xm2368), (0x01D00000, .xm2432), (0x01E00000, .xm2496),
      (0x01F00000, .xm2560)] = true := by decide

/-- The `value` column of R137, in the black list. -/
theorem test_decode_extended_after_black :
    decodesAll (.run .black)
     [(0x01000000, .xm1792), (0x01800000, .xm1856), (0x01A00000, .xm1920), (0x01200000, .xm1984),
      (0x01300000, .xm2048), (0x01400000, .xm2112), (0x01500000, .xm2176), (0x01600000, .xm2240),
      (0x01700000, .xm2304), (0x01C00000, .xm2368), (0x01D00000, .xm2432), (0x01E00000, .xm2496),
      (0x01F00000, .xm2560)] = true := by decide

/-- R101, section 9 (P3b): `H 1800, 200` and its bits. -/
theorem test_encode_horizontal :
    horizontalCodes .white 1800 200 = [.h, .xm1792, .wt8, .bm192, .bt8] ∧
      pack (assemble [.h, .xm1792, .wt8, .bm192, .bt8, .v0, .vr1, .vl1, .eob]) =
        [0x20, 0x22, 0x61, 0x92, 0x2D, 0xA0, 0x01, 0x00, 0x10] := by decide

/-! The Bit Window. -/

/-- BW-1. -/
theorem test_window_round_trip :
    let w := Window.construct [0xAB, 0xCD, 0xEF]
    w.buffer = 0xABCDEF00 ∧ w.peek8 = (0xAB, 24) ∧ (w.consume 8).peek16 = (0xCDEF, 16) ∧
      ((w.consume 8).consume 16).valid = 0 ∧ ((w.consume 8).consume 16).hasRemaining = false := by decide

/-- BW-5 to BW-8: the refill takes a byte once eight bits are empty. -/
theorem test_window_refill :
    let w := (Window.construct [0x12, 0x34, 0x56, 0x78, 0x9A]).consume 4
    (w.buffer, w.emptyBits, w.sourcePos) = (0x23456780, 4, 4) ∧
      ((w.consume 4).buffer, (w.consume 4).emptyBits, (w.consume 4).sourcePos) = (0x3456789A, 0, 5) ∧
      (w.consume 4).position = 8 := by decide

/-- BW-9, BW-10: consuming all 32 bits, and the zeros below the valid bits. -/
theorem test_window_end :
    ((bitsAt 0x3456789A 32).consume 32).buffer = 0 ∧ ((bitsAt 0x3456789A 32).consume 32).hasRemaining = false ∧
      ((Window.construct [0x80]).consume 1).peek32 = (0x00000000, 7) := by decide

/-- BW-2 to BW-4: HasRemaining at the empty source, with bits left, and with a byte unread. -/
theorem test_window_has_remaining :
    (Window.construct []).hasRemaining = false ∧
      (((Window.construct [0xAB, 0xCD, 0xEF]).consume 8).consume 8).hasRemaining = true ∧
      ({ source := [0], sourcePos := 0, buffer := 0, emptyBits := 32 } : Window).hasRemaining = true := by decide

/-- BW-11: the target bits are cleared before the byte is put in. -/
theorem test_window_insert_clears : insertByte 0xAB00FF00 8 0x12 = 0xAB001200 := by decide

/-! Runs (95_test_vectors.md section 4). -/

/-- DR-1, DR-3, DR-5, DR-6: white runs. -/
theorem test_run_white :
    runOf W 0x70000000 4 = (some 2, .none, 4) ∧ runOf W 0x35000000 8 = (some 0, .none, 8) ∧
      runOf W 0xDF000000 9 = (some 70, .none, 9) ∧ runOf W 0xDECD4000 18 = (some 128, .none, 18) := by decide

/-- DR-2, DR-8, DR-11: black runs. -/
theorem test_run_black :
    runOf B 0xC0000000 2 = (some 2, .none, 2) ∧ runOf B 0x0C914000 18 = (some 200, .none, 18) ∧
      runOf B 0x03286E00 23 = (some 1728, .none, 23) := by decide

/-- DR-7, DR-9, DR-12: extended make-up codes in both colours, and twice in one run. -/
theorem test_run_extended :
    runOf W 0x01130000 16 = (some 1800, .none, 16) ∧ runOf B 0x01F06700 24 = (some 2623, .none, 24) ∧
      runOf W 0x010020D4 30 = (some 3584, .none, 30) := by decide

/-- DR-13, DR-14, DR-18: no entry matches while bits are valid. -/
theorem test_run_corrupt :
    runOf W 0 16 = (none, .corruptRunCode, 0) ∧ runOf B 0x00800000 9 = (none, .corruptRunCode, 0) ∧
      runOf W 0 7 = (none, .corruptRunCode, 0) := by decide

/-- DR-15 to DR-17: the stream ends before, inside and between codes. -/
theorem test_run_unexpected_end :
    runOf W 0 0 = (none, .unexpectedEnd, 0) ∧ runOf B 0x80000000 1 = (none, .unexpectedEnd, 0) ∧
      runOf W 0xD8000000 5 = (none, .unexpectedEnd, 5) := by decide

/-! The reference line (95_test_vectors.md section 5). -/

/-- FB-1 to FB-4, FB-13. -/
theorem test_findB_mid_line :
    findB (lineState refA 0 W [] []) = (2, 5) ∧ findB (lineState refA 3 B [] []) = (5, 8) ∧
      findB (lineState refA 5 W [] []) = (8, 8) ∧ findB (lineState refA 2 B [] []) = (5, 8) ∧
      findB (lineState refA 7 W [] []) = (8, 8) := by decide

/-- FB-5 to FB-9, FB-12: the line start, and lines without a transition. -/
theorem test_findB_line_start :
    findB (lineState [B, W, W, W, W, W, W, W] 0 W [] []) = (0, 1) ∧ findB (lineState white8 0 W [] []) = (8, 8) ∧
      findB (lineState [W, W, W, W, W, W, W, B] 0 W [] []) = (7, 8) ∧
      findB (lineState [B, B, B, B, B, B, B, B] 0 W [] []) = (0, 8) ∧
      findB (lineState [B, B, B, B, B, B, B, B] 0 B [] []) = (8, 8) ∧
      findB (lineState [B, W, W, W, W, W, W, W] 0 B [] []) = (1, 8) := by decide

/-- FB-10, FB-11: the colour decides which transition counts. -/
theorem test_findB_colour :
    findB (lineState [W, B, W, B, W, B, W, B] 1 B [] []) = (2, 3) ∧
      findB (lineState [W, B, W, B, W, B, W, B] 1 W [] []) = (3, 4) := by decide

/-! One coding step (95_test_vectors.md section 6). -/

/-- LD-1. -/
theorem test_p : lineAfter (step (lineState refA 0 W (cur [] 8) [0x10])) = some (cur [W, W, W, W, W] 3, 5, W, .none) := by
  decide

/-- LD-13: PASS to the line end completes the line. -/
theorem test_p_completes :
    emitted (step (lineState refA 3 B (cur [W, W, W] 5) [0x10, 0xFF])) = some ([W, W, W, B, B, B, B, B], 1, 0, W) := by
  decide

/-- LD-2. -/
theorem test_h :
    lineAfter (step (lineState refA 0 W (cur [] 8) [0x31, 0x80])) = some (cur [W, W, W, B, B] 3, 5, W, .none) := by decide

/-- LD-11: the part of the runs past the width is discarded. -/
theorem test_h_past_the_width :
    emitted (step (lineState white8 0 W (cur [] 8) [0x3C, 0x60])) = some ([W, W, W, W, W, W, B, B], 1, 0, W) := by decide

/-- LD-16: LD-2 under FLIP. -/
theorem test_h_flip :
    lineAfter (step (flip (lineState refA 0 W (cur [] 8) [0x31, 0x80]))) = some (cur [W, W, W, B, B] 3, 5, B, .none) := by
  decide

/-- LD-3. -/
theorem test_v0 : lineAfter (step (lineState refA 0 W (cur [] 8) [0x80])) = some (cur [W, W] 6, 2, B, .none) := by decide

/-- LD-10: b1 at 0 leaves the position at 0 and toggles the colour. -/
theorem test_v0_at_zero :
    lineAfter (step (lineState [B, W, W, W, W, W, W, W] 0 W (cur [] 8) [0x80])) = some (cur [] 8, 0, B, .none) := by decide

/-- LD-4. -/
theorem test_vr1 : lineAfter (step (lineState refA 0 W (cur [] 8) [0x60])) = some (cur [W, W, W] 5, 3, B, .none) := by
  decide

/-- LD-5. -/
theorem test_vr2 : lineAfter (step (lineState refA 0 W (cur [] 8) [0x0C])) = some (cur [W, W, W, W] 4, 4, B, .none) := by
  decide

/-- LD-6. -/
theorem test_vr3 : lineAfter (step (lineState refA 0 W (cur [] 8) [0x06])) = some (cur [W, W, W, W, W] 3, 5, B, .none) := by
  decide

/-- LD-14: the target past the width is clipped. -/
theorem test_vr3_past_the_width : emitted (step (lineState white8 0 W (cur [] 8) [0x06])) = some (white8, 1, 0, W) := by
  decide

/-- LD-7. -/
theorem test_vl1 : lineAfter (step (lineState refA 0 W (cur [] 8) [0x40])) = some (cur [W] 7, 1, B, .none) := by decide

/-- LD-22: the only way VL1 faults. -/
theorem test_vl1_faults :
    lineAfter (step (lineState [B, W, W, W, W, W, W, W] 0 W (cur [] 8) [0x40])) =
      some (cur [] 8, 0, W, .verticalRange) := by decide

/-- LD-8. -/
theorem test_vl2 : lineAfter (step (lineState refA 0 W (cur [] 8) [0x08])) = some (cur [] 8, 0, B, .none) := by decide

/-- LD-18: a target at a0 in mid-line. -/
theorem test_vl2_at_a0 :
    lineAfter (step (lineState refA 3 B (cur [W, W, W] 5) [0x08])) = some (cur [W, W, W] 5, 3, W, .none) := by decide

/-- LD-15. -/
theorem test_vl3 :
    lineAfter (step (lineState white8 0 W (cur [] 8) [0x04])) = some (cur [W, W, W, W, W] 3, 5, B, .none) := by decide

/-- LD-19: a target left of a0. -/
theorem test_vl3_faults :
    lineAfter (step (lineState refA 3 B (cur [W, W, W] 5) [0x04])) = some (cur [W, W, W] 5, 3, B, .verticalRange) := by
  decide

/-- E2E-3: EXT stops the launch and consumes nothing. -/
theorem test_ext :
    statusOf (step (lineState white8 0 W (cur [] 8) [0x03, 0x00])) = some (0, .unrecognizedMode, false, false, 0) := by
  decide

/-- CE-1: the end-of-block pattern after a line, not consumed. -/
theorem test_eob :
    statusOf (step (lineState white8 0 W (cur [] 8) [0x80, 0x08, 0x00, 0x80])) =
      some (1, .endOfBlock, false, false, 1) := by decide

/-- CE-2: the pattern one bit late is not seen. -/
theorem test_eob_late :
    statusOf (step (lineState white8 0 W (cur [] 8) [0x80, 0x04, 0x00, 0x40])) = some (1, .none, false, false, 1) := by
  decide

/-- CE-9: the zero padding completes a code that the valid bits do not back. -/
theorem test_mode_code_not_backed :
    statusOf (step { lineState white8 0 W (cur [] 8) [] with win := bitsAt 0x04000000 6 }) =
      some (0, .unexpectedEnd, true, false, 0) := by decide

/-- ER-5, ER-7: the causes of a HORIZONTAL step's runs. -/
theorem test_h_run_causes :
    statusOf (step (lineState white8 0 W (cur [] 8) [0x20, 0x00, 0x00])) = some (0, .corruptRunCode, true, true, 3) ∧
      statusOf (step (lineState white8 0 W (cur [] 8) [0x33])) = some (0, .unexpectedEnd, true, true, 8) := by decide

/-- ER-2: no bit is left. -/
theorem test_end_of_input :
    statusOf (step (lineState white8 0 W (cur [] 8) [])) = some (0, .endOfInput, false, false, 0) := by decide

/-- CE-8, ER-4: the other checks at the top of a step. -/
theorem test_top_checks :
    statusOf (step (lineState white8 0 W (cur [] 8) [0, 0, 0, 0, 1])) = some (0, .zeroLookahead, false, false, 0) ∧
      statusOf (step (lineState white8 0 W (cur [] 8) [0x00, 0x80])) = some (0, .unrecognizedMode, false, false, 0) := by
  decide

/-- ER-10: the line that would pass P_MAX_LINES. -/
theorem test_line_limit :
    statusOf (step { lineState white8 0 W (cur [] 8) [0xFF] with
        cfg := { Config.standard with maxLines := some 0 } }) = some (0, .lineLimit, true, true, 1) := by decide

/-- R28: a line that completes with a pixel no fill wrote is a model error. -/
theorem test_unwritten_pixel :
    faultOf (step (lineState white8 3 W (cur [] 8) [0x80])) = some .unwrittenPixel := by decide

/-! One run code, inside a HORIZONTAL step. -/

/-- A make-up code, a terminating code, and the code that ends the second run, each by itself: the runs of `H 70, 2`. -/
theorem test_run_codes :
    (match step { lineState white8 0 W (cur [] 8) [0xDF, 0x80] with phase := .within, reading := .firstRun 0 } with
      | .next t => some t.reading | _ => none) = some (.firstRun 64) ∧
    (match step { lineState white8 0 W (cur [] 8) [0xE6, 0x00] with phase := .within, reading := .firstRun 64 } with
      | .next t => some t.reading | _ => none) = some (.secondRun 70 0) ∧
    lineAfter (step { lineState white8 0 W (cur [] 8) [0xC0] with phase := .within, reading := .secondRun 3 0 }) =
      some (cur [W, W, W, B, B] 3, 5, W, .none) := by decide

/-- A code executed where its table is not read is refused by name. -/
theorem test_out_of_context :
    refusalOf (exec .wt2 (lineState white8 0 W (cur [] 8) [0x70])) = some .outOfContext ∧
      refusalOf (exec .eob (lineState white8 0 W (cur [] 8) [0x70])) = some .outOfContext ∧
      refusalOf (exec .v0 State.reset) = some .outOfContext := by decide

/-- The step after `withFetchWord` at reset runs the word: `V0` completes the all-white line, a white make-up code adds
its pixels. -/
theorem test_fetch_word :
    emitted (step (State.reset.withFetchWord 8 0x80)) = some (white8, 1, 0, W) ∧
      (match step (State.reset.withFetchWord 16 0xD800) with
        | .next t => some t.reading | _ => none) = some (.firstRun 64) ∧
      statusOf (step (State.reset.withFetchWord 24 0x001001)) = some (0, .endOfBlock, false, false, 0) := by decide

/-! Output, launch, reset and the host. -/

/-- E2E-2: the bytes of a line, as they are and inverted. -/
theorem test_emit_bytes :
    (({ lineState white8 0 W [] [] with width := 2, lines := 1 } : State).emit [W, B]).out = [(2, 0xFF), (3, 0x00)] ∧
      (({ lineState white8 0 W [] [] with width := 2, invert := true } : State).emit [W, B]).out =
        [(0, 0x00), (1, 0xFF)] := by decide

/-- R263: the START values. -/
theorem test_start :
    stateOf (step (starting 2 [0x80])) =
      some { starting 2 [0x80] with
                pins := { start := false, rst := false, width := 2, invert := false, src := [0x80] }
                win := { source := [0x80], sourcePos := 1, buffer := 0x80000000, emptyBits := 24 }
                cur := [none, none], ref := [W, W], phase := .between, width := 2,
                status := { Status.clear with busy := true } } := by decide

/-- ER-11: a width of 0. -/
theorem test_config_invalid :
    statusOf (step (starting 0 [0x2F, 0x80])) = some (0, .configInvalid, true, false, 0) := by decide

/-- R260, R264: RST wins over everything, and START while busy does nothing. -/
theorem test_reset_and_busy_start :
    stateOf (step { lineState refA 3 B (cur [W, W, W] 5) [0x10] with
        pins := { State.reset.pins with rst := true, start := true } }) = some State.reset ∧
      stateOf (step { lineState refA 0 W (cur [] 8) [0x80] with pins := { State.reset.pins with start := true } }) =
        stateOf (step (lineState refA 0 W (cur [] 8) [0x80])) := by decide

/-- R63, R41: SRC is not written while the core is busy, and only emitted lines are read then (a byte above them answers
no value: the model's choice, log entry 16). -/
theorem test_host_while_busy :
    refusalOf (hostMove (.setSource [1]) (lineState refA 0 W (cur [] 8) [])) = some .sourceWriteWhileBusy ∧
      hostRead 0 (lineState refA 0 W (cur [] 8) []) = none := by decide

/-! Witnesses: for each obligation with hypotheses, concrete values that meet them together. -/

/-- A line start over an all-white reference, with `src` ahead. -/
def startOf (src : List Byte) : State := lineState white8 0 W (cur [] 8) src

/-- A line start whose reference has its first black pixel at 4. -/
def halfBlack (src : List Byte) : State := lineState [W, W, W, W, B, B, B, B] 0 W (cur [] 8) src

/-- The second line of a launch: its first line is white and emitted. -/
def secondLine : State := (stateOf (step (startOf [0xC0]))).getD State.reset

/-- A launch that is over, with other data behind it. -/
def finished : State :=
  { startOf [0x12] with phase := .done, lines := 1, out := (startOf []).emit white8 |>.out,
                        status := { Status.clear with done := true, cause := .endOfInput, lines := 1 } }

/-- With START pulsed at it. -/
def pulsed (s : State) (width : Nat) (src : List Byte) : State :=
  { s with pins := { start := true, rst := false, width := width, invert := false, src := src } }

theorem witness_ConsumeAdvancesTheStream :
    let w := Window.construct [0xAB, 0xCD, 0xEF]
    w.wf ∧ 1 ≤ w.valid ∧ 24 ≤ w.valid ∧ (Window.construct [1, 2, 3, 4, 5]).wf ∧
      32 ≤ (Window.construct [1, 2, 3, 4, 5]).valid := by decide

theorem witness_UnreadSourceBacksEveryCode :
    let w := (Window.construct [1, 2, 3, 4, 5]).consume 7
    w.refill.sourcePos < w.refill.source.length ∧ w.refill.valid = 25 := by decide

theorem witness_LookaheadShowsTheStream : ((Window.construct [1, 2, 3, 4, 5]).consume 7).wf := by decide

theorem witness_HasRemainingMeansValidBits :
    (Window.construct [0x80]).wf ∧ (Window.construct []).wf ∧ ((Window.construct [0x80]).consume 8).wf := by decide

theorem witness_RefillMaskIsImmaterial :
    let w : Window := { source := [0x12], sourcePos := 0, buffer := 0xAB000000, emptyBits := 24 }
    w.emptyBits ≤ 32 ∧ (∀ j < 32, w.valid ≤ j → w.buffer.getMsbD j = false) ∧ w.refill ≠ w := by decide

theorem witness_RunWindowsUnmatched :
    (bitsAt 0x00FF0000 16).peek16.1 = 0x00FF ∧ (0x00FF#16) < 0x0100 ∧ (bitsAt 0x00FF0000 16).valid = 16 ∧
      (bitsAt 0 0).peek16.1 = 0 ∧ (bitsAt 0 0).valid = 0 ∧ runMatch 0x0100 W = some .xm1792 := by decide

theorem witness_CodesArePrefixFree_order :
    (runList .white).reverse.Perm (runList .white) ∧ modeList.reverse.Perm modeList :=
  ⟨List.reverse_perm _, List.reverse_perm _⟩

theorem witness_CodesArePrefixFree_match :
    Instr.wt7 ∈ runList .white ∧ Instr.wt7.code.matchesIn 16 0xFFFF = true ∧ Instr.ext ∈ modeList ∧
      Instr.ext.code.matchesIn 8 0x03 = true ∧ encode .ext <+: encode .ext := by decide

theorem witness_DecodeEncodeAgree :
    (Instr.wellFormed .mode .ext = true ∧ ∀ j < Instr.ext.code.len, (0x03FFFFFF#32).getMsbD j = (encode .ext).getD j false) ∧
      (Instr.wellFormed (.run .black) .bm1728 = true ∧
        ∀ j < Instr.bm1728.code.len, (0x032FFFFF#32).getMsbD j = (encode .bm1728).getD j false) ∧
      (Instr.wellFormed .endOfBlock .eob = true ∧
        ∀ j < Instr.eob.code.len, (0x001001FF#32).getMsbD j = (encode .eob).getD j false) := by decide

theorem witness_DecodedCodeStandsInTheWindow :
    decodeWindow .mode 0x03FFFFFF = .ok .ext ∧ decodeWindow (.run .white) 0x01F00000 = .ok .xm2560 := by decide

theorem witness_PackedBitsAreTheStream : 8 < [true, false, true, true, false, true, true, false, true].length := by decide

theorem witness_CanonicalRunIsARun :
    64 ≤ 64 ∧ Instr.isMakeUp .black .bm64 = true ∧ Instr.bm64.pixels Config.standard ≤ 64 := by decide

theorem witness_StepRunsTheDecodedInstruction_mode :
    let s := startOf [0x80]
    s.phase.coding = true ∧ s.pins.rst = false ∧ s.reading = .mode ∧ s.win.hasRemaining = true ∧ s.win.buffer ≠ 0 ∧
      decodeWindow .mode s.win.buffer = .ok .v0 := by decide

theorem witness_StepRunsTheDecodedInstruction_run :
    let s : State := { startOf [0xC0] with phase := .within, reading := .secondRun 3 0 }
    s.phase.coding = true ∧ s.pins.rst = false ∧ s.runColour? = some .black ∧ 0 < s.win.valid ∧
      decodeWindow (.run .black) s.win.buffer = .ok .bt2 := by decide

theorem witness_StepRunsTheDecodedInstruction_end :
    let s : State := { startOf [0x00, 0x10, 0x01] with reading := .endOfBlock }
    s.phase.coding = true ∧ s.pins.rst = false ∧ s.reading = .endOfBlock ∧ s.win.hasRemaining = true ∧
      decodeWindow .endOfBlock s.win.buffer = .ok .eob := by decide

theorem witness_ChecksBeforeACode_mode :
    ((startOf []).phase.coding = true ∧ (startOf []).pins.rst = false ∧ (startOf []).reading = .mode ∧
      (startOf []).win.hasRemaining = false) ∧
      ((startOf [0]).reading = .mode ∧ (startOf [0]).win.hasRemaining = true ∧ (startOf [0]).win.buffer = 0) ∧
      ((startOf [0x01, 0xFF, 0xFF, 0xFF]).win.hasRemaining = true ∧ (startOf [0x01, 0xFF, 0xFF, 0xFF]).win.buffer ≠ 0 ∧
        (startOf [0x01, 0xFF, 0xFF, 0xFF]).win.buffer < 0x02000000) := by decide

theorem witness_ChecksBeforeACode_run :
    let s (src : List Byte) : State := { startOf src with phase := .within, reading := .firstRun 64 }
    ((s []).phase.coding = true ∧ (s []).pins.rst = false ∧ (s []).runColour? = some .white ∧ (s []).win.valid = 0) ∧
      ((s [0x00, 0xFF]).runColour? = some .white ∧ 0 < (s [0x00, 0xFF]).win.valid ∧
        (s [0x00, 0xFF]).win.buffer < 0x01000000) := by decide

theorem witness_ChecksBeforeACode_end :
    let s : State := { startOf [0x00, 0x10, 0x02] with reading := .endOfBlock }
    s.phase.coding = true ∧ s.pins.rst = false ∧ s.reading = .endOfBlock ∧ s.win.buffer.extractLsb' 8 24 ≠ 0x001001 := by
  decide

theorem witness_ModeCodeNotBacked :
    let s : State := { startOf [] with win := (Window.construct [0xC1]).consume 2 }
    s.ready ∧ Instr.wellFormed .mode .vl3 = true ∧ Instr.vl3 ≠ .ext ∧ s.win.valid < Instr.vl3.code.len ∧ s.win.wf := by
  decide

theorem witness_FindBIsTheSearch :
    (startOf []).ref.length = (startOf []).width ∧ (startOf []).a0 < (startOf []).width ∧ (startOf []).isB1 8 ∧
      (lineState refA 7 W [] []).ref.length = (lineState refA 7 W [] []).width ∧
      (lineState refA 7 W [] []).a0 < (lineState refA 7 W [] []).width ∧ (lineState refA 0 W [] []).isB1 2 := by decide

theorem witness_FillSetsTheRange : min 9 (startOf []).width ≤ 8 := by decide

theorem witness_PassReachesB2 :
    let s := lineState [W, W, B, B, B, B, B, W] 0 W (cur [] 8) [0x10]
    s.ready ∧ 4 ≤ s.win.valid ∧ s.ref.length = s.width ∧ s.isB1 2 ∧ s.isB2 2 7 ∧ 7 < s.width := by decide

/-- With b1 at 4, every offset has its target inside the line: 1 to 7, and VR3's is the last pixel. -/
theorem witness_VerticalReachesItsTarget :
    let s := halfBlack [0xFF]
    s.ready ∧ s.ref.length = s.width ∧ s.isB1 4 ∧
      ∀ c ∈ verticalCodes, c.1.code.len ≤ s.win.valid ∧ (s.a0 : Int) ≤ 4 + c.2 ∧ 4 + c.2 < (s.width : Int) := by decide

/-- A target at a0 itself. -/
theorem witness_VerticalReachesItsTarget_at_a0 :
    let s := lineState refA 3 B (cur [W, W, W] 5) [0x08]
    (Instr.vl2, (-2 : Int)) ∈ verticalCodes ∧ s.ready ∧ Instr.vl2.code.len ≤ s.win.valid ∧ s.ref.length = s.width ∧
      s.isB1 5 ∧ (s.a0 : Int) ≤ 5 + -2 ∧ (5 : Int) + -2 < s.width := by decide

theorem witness_VerticalLeftOfA0EndsTheLaunch :
    let s := lineState [B, W, W, W, W, W, W, W] 0 W (cur [] 8) [0x40]
    (Instr.vl1, (-1 : Int)) ∈ verticalCodes ∧ s.ready ∧ Instr.vl1.code.len ≤ s.win.valid ∧ s.ref.length = s.width ∧
      s.a0 < s.width ∧ s.isB1 0 ∧ (0 : Int) + -1 < s.a0 := by decide

theorem witness_VerticalLeftOfA0EndsTheLaunch_mid_line :
    let s := lineState refA 3 B (cur [W, W, W] 5) [0x04]
    (Instr.vl3, (-3 : Int)) ∈ verticalCodes ∧ s.ready ∧ Instr.vl3.code.len ≤ s.win.valid ∧ s.ref.length = s.width ∧
      s.a0 < s.width ∧ s.isB1 5 ∧ (5 : Int) + -3 < s.a0 := by decide

/-- `H 5, 2`: the position after it is the last pixel. -/
theorem witness_HorizontalReadsTwoRuns :
    let s := startOf [0x39, 0x80]
    s.ready ∧ s.win.wf ∧ runWellFormed s.color [.wt5] = true ∧ runWellFormed s.color.opp [.bt2] = true ∧
      s.win.streamBits = encode .h ++ assemble [.wt5] ++ assemble [.bt2] ++ List.replicate 7 false ∧
      s.a0 + pixelsOf s.cfg [.wt5] + pixelsOf s.cfg [.bt2] < s.width := by decide

/-- The stream ends after `H WT8`, and after `H WM64`. -/
theorem witness_HorizontalRunFaults_end :
    let s := startOf [0x33]
    let t := startOf [0x3B]
    (s.ready ∧ s.win.wf ∧ runWellFormed s.color [.wt8] = true ∧
      s.win.streamBits = encode .h ++ assemble [.wt8] ++ []) ∧
      (t.ready ∧ t.win.wf ∧ (∀ i ∈ [Instr.wm64], i.isMakeUp t.color = true) ∧
        t.win.streamBits = encode .h ++ assemble [.wm64] ++ []) := by decide

/-- Zeros after H. -/
theorem witness_HorizontalRunFaults_corrupt :
    let s := startOf [0x20, 0x00, 0x00]
    s.ready ∧ s.win.wf ∧ (∀ i ∈ ([] : List Instr), i.isMakeUp s.color = true) ∧
      s.win.streamBits = encode .h ++ assemble [] ++ List.replicate 21 false ∧
      ∀ j < 8, (List.replicate 21 false).getD j false = false := by decide

/-- `H WT2`, then the first bit of BT3. -/
theorem witness_HorizontalRunFaults_not_backed :
    let s := startOf [0x2F]
    s.ready ∧ s.win.wf ∧ runWellFormed s.color [.wt2] = true ∧
      s.win.streamBits = encode .h ++ assemble [.wt2] ++ [true] ∧ Instr.wellFormed (.run s.color.opp) .bt3 = true ∧
      [true].length < Instr.bt3.code.len ∧
      ∀ j < Instr.bt3.code.len, (encode .bt3).getD j false = [true].getD j false := by decide

theorem witness_PassAndVerticalCompleteTheLine_p :
    (startOf [0x10]).inv ∧ let s := startOf [0x10]
    s.ready ∧ s.isB1 8 ∧ s.isB2 8 8 ∧ s.width ≤ 8 ∧
      s.win.streamBits = encode .p ++ List.replicate 4 false ∧ s.cfg.maxLines ≠ some s.lines := ⟨by decide, by decide⟩

/-- V0 and the end-of-block pattern after it. -/
theorem witness_PassAndVerticalCompleteTheLine_v0 :
    (startOf [0x80, 0x08, 0x00, 0x80]).inv ∧ let s := startOf [0x80, 0x08, 0x00, 0x80]
    s.ready ∧ s.isB1 8 ∧ (Instr.v0, (0 : Int)) ∈ verticalCodes ∧ ((8 : Nat) : Int) = (8 : Nat) + 0 ∧ s.width ≤ 8 ∧
      s.win.streamBits = encode .v0 ++ (encode .eob ++ List.replicate 7 false) ∧ s.cfg.maxLines ≠ some s.lines :=
  ⟨by decide, by decide⟩

theorem witness_HorizontalCompletesTheLine :
    (startOf [0x3C, 0x60]).inv ∧ let s := startOf [0x3C, 0x60]
    s.ready ∧ runWellFormed s.color [.wt6] = true ∧ runWellFormed s.color.opp [.bt5] = true ∧
      s.win.streamBits = encode .h ++ assemble [.wt6] ++ assemble [.bt5] ++ List.replicate 5 false ∧
      s.width ≤ s.a0 + pixelsOf s.cfg [.wt6] + pixelsOf s.cfg [.bt5] ∧ s.cfg.maxLines ≠ some s.lines :=
  ⟨by decide, by decide⟩

theorem witness_LineLimitBoundsTheOutput_completion :
    let s : State := { secondLine with a0 := 8, cfg := { Config.standard with maxLines := some 1 } }
    s.width ≤ s.a0 ∧ s.cfg.maxLines = some s.lines := by decide

theorem witness_LineLimitBoundsTheOutput_step :
    let s : State := { secondLine with cfg := { Config.standard with maxLines := some 1 } }
    s.inv ∧ s.cfg.maxLines = some 1 ∧ (stateOf (step s)).isSome = true ∧ secondLine.cfg.maxLines = none ∧
      secondLine.status.cause ≠ .lineLimit ∧ (stateOf (step secondLine)).isSome = true := by decide

theorem witness_ExtensionCodeStops : (startOf [0x03]).ready := by decide

theorem witness_EndOfBlockStops :
    let s : State := { startOf [0x00, 0x10, 0x01] with reading := .endOfBlock }
    s.phase.coding = true ∧ s.reading = .endOfBlock := by decide

/-- WM1728 in the first run and XM2560 in the second. -/
theorem witness_MakeUpCodeExtendsItsRun :
    let s : State := { startOf [0x4D, 0x80] with phase := .within, reading := .firstRun 0 }
    let t : State := { startOf [0x01, 0xF0] with phase := .within, reading := .secondRun 64 0 }
    (Instr.wm1728 ∈ whiteMakeUp ++ blackMakeUp ++ extendedMakeUp ∧ s.phase.coding = true ∧
      Instr.wm1728.code.len ≤ s.win.valid ∧ s.reading = .firstRun 0 ∧
      Instr.wellFormed (.run s.color) .wm1728 = true) ∧
      (Instr.xm2560 ∈ whiteMakeUp ++ blackMakeUp ++ extendedMakeUp ∧ t.phase.coding = true ∧
        Instr.xm2560.code.len ≤ t.win.valid ∧ t.reading = .secondRun 64 0 ∧
        Instr.wellFormed (.run t.color.opp) .xm2560 = true) := by decide

theorem witness_TerminatingCodeEndsTheFirstRun :
    let s : State := { startOf [0x35] with phase := .within, reading := .firstRun 64 }
    Instr.wt0 ∈ whiteTerminating ++ blackTerminating ∧ s.phase.coding = true ∧ s.reading = .firstRun 64 ∧
      Instr.wellFormed (.run s.color) .wt0 = true ∧ Instr.wt0.code.len ≤ s.win.valid := by decide

/-- Both runs end at the last pixel of the line. -/
theorem witness_TerminatingCodeEndsTheSecondRun :
    let s : State := { startOf [0xC0] with phase := .within, reading := .secondRun 5 0 }
    Instr.bt2 ∈ whiteTerminating ++ blackTerminating ∧ s.phase.coding = true ∧ s.reading = .secondRun 5 0 ∧
      Instr.wellFormed (.run s.color.opp) .bt2 = true ∧ Instr.bt2.code.len ≤ s.win.valid ∧
      s.a0 + 5 + (0 + Instr.bt2.pixels s.cfg) < s.width := by decide

theorem witness_RunCodeNotBacked :
    let s : State := { startOf [] with win := (Window.construct [0x01]).consume 7, phase := .within,
                                       reading := .secondRun 2 0 }
    s.phase.coding = true ∧ s.runColour? = some .black ∧ Instr.wellFormed (.run .black) .bt3 = true ∧
      s.win.valid < Instr.bt3.code.len := by decide

theorem witness_CodeByCodeIsTheCodingStep :
    let s := startOf [0x31, 0x80]
    s.ready ∧ s.quiet ∧ s.win.wf ∧ 3 ≤ s.win.valid ∧ s.win.remaining ≤ 16 := by decide

/-- The bounds of the build met exactly, from IDLE and from DONE. -/
theorem witness_StartSetsTheStartValues :
    let s (t : State) : State :=
      { pulsed t 1 [0x80] with cfg := { Config.standard with maxWidth := some 1, maxSrc := some 1 } }
    ((s State.reset).phase = .idle ∧ (s State.reset).pins.rst = false ∧ (s State.reset).pins.start = true ∧
      1 ≤ (s State.reset).pins.width ∧ withinBound (s State.reset).pins.width (s State.reset).cfg.maxWidth = true ∧
      withinBound (s State.reset).pins.src.length (s State.reset).cfg.maxSrc = true) ∧
      (s finished).phase = .done ∧ (s finished).pins.start = true := by decide

/-- Each of the three invalid configurations. -/
theorem witness_InvalidConfigurationFaults :
    let s (width : Nat) (src : List Byte) : State :=
      { pulsed State.reset width src with cfg := { Config.standard with maxWidth := some 1, maxSrc := some 1 } }
    ((s 0 []).phase = .idle ∧ (s 0 []).pins.rst = false ∧ (s 0 []).pins.start = true ∧ (s 0 []).pins.width = 0) ∧
      (withinBound (s 2 []).pins.width (s 2 []).cfg.maxWidth = false) ∧
      (withinBound (s 1 [1, 2]).pins.src.length (s 1 [1, 2]).cfg.maxSrc = false) := by decide

/-- A busy machine that steps on, and one (no run reaches it) that meets an unwritten pixel. -/
theorem witness_StartWhileBusyIsIgnored :
    (startOf [0x80]).phase.coding = true ∧ (startOf [0x80]).pins.rst = false ∧
      (pulsed State.reset 3 []).pins.rst = false ∧ (pulsed State.reset 3 []).pins.src = (startOf [0x80]).pins.src ∧
      (pulsed State.reset 3 []).pins.width ≠ (startOf [0x80]).pins.width ∧ (stateOf (step (startOf [0x80]))).isSome = true ∧
      (pulsed State.reset 3 []).pins.src = (lineState white8 3 W (cur [] 8) [0x80]).pins.src ∧
      faultOf (step (lineState white8 3 W (cur [] 8) [0x80])) = some .unwrittenPixel := by decide

theorem witness_ResetInAnyPhase :
    ({ secondLine with pins := { secondLine.pins with rst := true } } : State).pins.rst = true := by decide

theorem witness_NothingHappensWithoutStart :
    State.reset.phase = .idle ∧ State.reset.quiet ∧ finished.phase = .done ∧ finished.quiet := by decide

theorem witness_StepKeepsTheInvariant : ∃ t, secondLine.inv ∧ step secondLine = .next t := ⟨_, by decide, rfl⟩

theorem witness_InvariantStatesStepOn : secondLine.inv ∧ (startOf [0x31, 0x80]).inv ∧ finished.inv :=
  ⟨by decide, by decide, by decide⟩

theorem witness_EveryStepConsumesOrEnds :
    secondLine.inv ∧ secondLine.ready ∧ secondLine.pins.rst = false ∧ (stateOf (step secondLine)).isSome = true := by decide

theorem witness_LaunchReachesDone : secondLine.inv ∧ secondLine.ready ∧ secondLine.pins.rst = false := by decide

theorem witness_PolarityLaw :
    ∃ t, (pulsed finished 4 [0x2F, 0x80]).phase = .done ∧ (pulsed finished 4 [0x2F, 0x80]).pins.rst = false ∧
      (pulsed finished 4 [0x2F, 0x80]).pins.start = true ∧
      core.run (1 + 1) (pulsed finished 4 [0x2F, 0x80]) = .next t ∧ t.status.lines = 1 :=
  ⟨_, by decide, by decide, by decide, rfl, by decide⟩

theorem witness_RelaunchIsFresh :
    ∃ t, (starting 4 [0x2F, 0x80]).phase = .idle ∧ (pulsed finished 4 [0x2F, 0x80]).phase = .done ∧
      (starting 4 [0x2F, 0x80]).pins.rst = false ∧ (starting 4 [0x2F, 0x80]).pins.start = true ∧
      (pulsed finished 4 [0x2F, 0x80]).pins = (starting 4 [0x2F, 0x80]).pins ∧
      (pulsed finished 4 [0x2F, 0x80]).cfg = (starting 4 [0x2F, 0x80]).cfg ∧
      core.run (1 + 1) (starting 4 [0x2F, 0x80]) = .next t :=
  ⟨_, by decide, by decide, by decide, by decide, by decide, by decide, rfl⟩

theorem witness_LatchedValuesStayConstant :
    ∃ t, step secondLine = .next t ∧ secondLine.phase.coding = true ∧ secondLine.pins.rst = false :=
  ⟨_, rfl, by decide, by decide⟩

/-- A step that writes nothing in a launch, one that emits a line, and one outside a launch. -/
theorem witness_OutputIsWriteOnce :
    (∃ t, step (lineState refA 0 W (cur [] 8) [0x80]) = .next t ∧ t.lines = 0) ∧
      (∃ t, step secondLine = .next t ∧ t.lines = 2) ∧ ∃ t, step finished = .next t ∧ finished.phase.coding = false :=
  ⟨⟨_, rfl, by decide⟩, ⟨_, rfl, by decide⟩, _, rfl, by decide⟩

theorem witness_ColourParameterActsOnlyMidLine :
    ∃ t, (startOf [0x3C, 0x60]).ready ∧ exec .h (startOf [0x3C, 0x60]) = .next t ∧ t.lines = 0 + 1 :=
  ⟨_, by decide, rfl, by decide⟩

theorem witness_CauseCodes : Cause.lineLimit.code = Cause.lineLimit.code ∧ finished.inv ∧ State.reset.inv :=
  ⟨rfl, by decide, by decide⟩

theorem witness_HostMovesChangeOnlyPins :
    (∃ t, hostMove .pulseStart secondLine = .next t) ∧ secondLine.phase.coding = true ∧ finished.phase.coding = false :=
  ⟨⟨_, rfl⟩, by decide, by decide⟩

/-- The last byte of the emitted line and the first above it. -/
theorem witness_HostReadsEmittedLines :
    secondLine.inv ∧ secondLine.phase.coding = true ∧ 7 < secondLine.status.lines * secondLine.width ∧
      secondLine.status.lines * secondLine.width ≤ 8 := by decide

theorem witness_CodingStepIsAtomic : ∃ t, (startOf [0x31, 0x80]).reading = .mode ∧ step (startOf [0x31, 0x80]) = .next t :=
  ⟨_, by decide, rfl⟩

end Sys2Proof.Tests
end

namespace Sys2Proof.Machine

/-! SUPPORT. The top of a coding step (R171): which operations lead back to it, and that a step from there never stops inside
(R8, R34). -/

/-- The end-of-block check ends the step it belongs to. -/
@[simp] theorem State.checkEndOfBlock_reading (s : State) : s.checkEndOfBlock.reading = .mode := by
  rcases s.checkEndOfBlock_cases with ⟨_, e⟩ | ⟨_, e⟩
  · rw [e]; rfl
  · rw [e]

theorem completeLine_reading {s t : State} (h : completeLine s = .next t) : t.reading = .mode := by
  rcases completeLine_cases s with ⟨_, e⟩ | ⟨_, _, e⟩ | ⟨px, _, _, e⟩ <;> rw [e] at h <;> cases h
  · rfl
  · exact State.checkEndOfBlock_reading _

theorem finishStep_reading {s t : State} (h : finishStep s = .next t) : t.reading = .mode := by
  rcases finishStep_cases s with ⟨_, e⟩ | ⟨_, e⟩ <;> rw [e] at h
  · cases h; rfl
  · exact completeLine_reading h

/-- A mode code leaves its coding step if its action does whenever the launch ends in it. -/
theorem execMode_reading {i : Instr} {action : State → ActionEnd}
    (ha : ∀ u v, action u = .ended v → v.reading = .mode) {s t : State} (h : execMode i action s = .next t) :
    t.reading = .mode := by
  by_cases hr : s.ready
  · rcases execMode_ready hr i action with ⟨_, e⟩ | ⟨_, ⟨u, hu, e⟩ | ⟨u, _, e⟩⟩ <;> rw [e] at h
    · cases h; rfl
    · cases h; exact ha _ _ hu
    · exact finishStep_reading h
  · rw [execMode_outOfContext hr] at h; cases h

theorem passAction_ended_reading (u v : State) (h : passAction u = .ended v) : v.reading = .mode := by
  cases h

theorem verticalAction_ended_reading (k : Int) (u v : State) (h : verticalAction k u = .ended v) :
    v.reading = .mode := by
  unfold verticalAction at h
  split at h <;> cases h
  rfl

theorem horizontalAction_ended_reading (u v : State) (h : horizontalAction u = .ended v) : v.reading = .mode := by
  rcases horizontalAction_cases u with ⟨r1, r2, t, e, _⟩ | ⟨c, t, e, _⟩ <;> rw [e] at h <;> cases h
  rfl

/-- A mode code is executed as a whole coding step: the machine is at the top of a step after it. -/
theorem exec_modeCode_reading {i : Instr} (hi : i.wellFormed .mode = true) {s t : State} (h : exec i s = .next t) :
    t.reading = .mode := by
  rcases mode_cases hi with rfl | rfl | rfl | ⟨k, hk⟩
  · exact execMode_reading passAction_ended_reading h
  · exact execMode_reading horizontalAction_ended_reading h
  · rw [exec_ext, execUnrecognized] at h
    split at h <;> cases h
    rfl
  · rw [exec_vertical hk] at h
    exact execMode_reading (verticalAction_ended_reading k) h

theorem codingStep_reading {s t : State} (h : codingStep s = .next t) : t.reading = .mode := by
  rcases codingStep_cases s with ⟨_, e⟩ | ⟨_, _, e⟩ | ⟨_, _, _, e⟩ | ⟨i, _, _, _, hi, e⟩ <;> rw [e] at h
  · cases h; rfl
  · cases h; rfl
  · cases h; rfl
  · exact exec_modeCode_reading hi h

@[simp] theorem applyStart_reading (s : State) : (applyStart s).reading = .mode := by
  rcases applyStart_cases s with ⟨_, e⟩ | ⟨_, e⟩ <;> rw [e] <;> rfl

/-- Settles O57, by the rows of the transition: reset, START and rest are outside a launch, and in a launch the step is a
whole coding step. -/
theorem codingStepIsAtomic : Obligations.CodingStepIsAtomic := by
  intro s t hs h
  rcases step_cases s with ⟨_, e⟩ | ⟨_, _, _, e⟩ | ⟨_, _, _, e⟩ | ⟨_, _, e⟩ <;> rw [e] at h
  · cases h; rfl
  · cases h; exact applyStart_reading s
  · cases h; exact hs
  · have hl : launchStep s.dropStart = codingStep s.dropStart := by simp [launchStep, hs]
    exact codingStep_reading (hl ▸ h)

/-! The stream bits that bound the reads of a run (R123, log entry 14). -/

/-- The ranges of the Bit Window's registers (R21, R22): the part of `Window.wf` that counts bits and says nothing of
their values. -/
abbrev Window.inRange (w : Window) : Prop :=
  w.emptyBits ≤ 32 ∧ w.sourcePos ≤ w.source.length ∧ w.valid ≤ 8 * w.sourcePos

theorem Window.inRange_of_wf {w : Window} (h : w.wf) : w.inRange := ⟨h.1, h.2.1, h.2.2.1⟩

/-- Consuming backed bits keeps the ranges and takes exactly those bits from the ones left (R115, R123). -/
theorem Window.consume_inRange {w : Window} {n : Nat} (h : w.inRange) (hn : n ≤ w.valid) :
    (w.consume n).inRange ∧ (w.consume n).remaining + n = w.remaining := by
  obtain ⟨he, hp, hv⟩ := h
  have hn' : n ≤ 32 - w.emptyBits := hn
  have hv' : 32 - w.emptyBits ≤ 8 * w.sourcePos := hv
  have hs : w.emptyBits + n ≤ 32 := by omega
  obtain ⟨hre, hrp, hrv, -, hrem⟩ :=
    Window.refill_moves { w with buffer := w.buffer <<< n, emptyBits := w.emptyBits + n } hs hp
      (show 32 - (w.emptyBits + n) ≤ 8 * w.sourcePos by omega)
  refine ⟨⟨hre.trans hs, ?_, hrv⟩, ?_⟩
  · rw [Window.consume_source]; exact hrp
  · rw [Window.consume, hrem]
    simp only [Window.remaining, Window.valid]
    omega

theorem Window.valid_le_remaining (w : Window) : w.valid ≤ w.remaining := Nat.le_add_left _ _

theorem code_len_pos (i : Instr) : 0 < i.code.len := by cases i <;> decide

/-- With no stream bit left the next read of a run is UNEXPECTED_END (R143). -/
theorem nextRunCode_of_valid_zero (c : Colour) {w : Window} (h : w.valid = 0) :
    nextRunCode c w = .error .unexpectedEnd := by
  simp [nextRunCode, h]

/-- A run code that the checks of R143 pass is in the colour's list and backed by data. -/
theorem nextRunCode_ok {c : Colour} {w : Window} {i : Instr} (h : nextRunCode c w = .ok i) :
    0 < w.valid ∧ runMatch w.peek16.1 c = some i ∧ i.code.len ≤ w.valid := by
  rcases nextRunCode_cases c w with ⟨_, e⟩ | ⟨_, _, e⟩ | ⟨j, hm, ⟨_, e⟩ | ⟨hv, hl, e⟩⟩ <;> rw [e] at h <;> cases h
  exact ⟨hv, hm, hl⟩

/-- Consuming a run code that the checks pass leaves fewer stream bits (R144). -/
theorem consume_nextRunCode {c : Colour} {w : Window} {i : Instr} (hw : w.inRange) (h : nextRunCode c w = .ok i) :
    (w.consume i.code.len).inRange ∧ (w.consume i.code.len).remaining < w.remaining := by
  obtain ⟨_, _, hl⟩ := nextRunCode_ok h
  obtain ⟨hr, hrem⟩ := Window.consume_inRange hw hl
  have hpos := code_len_pos i
  exact ⟨hr, by omega⟩

/-! `DecodeRun` (R143), with any bound on its passes that covers the stream bits left. -/

theorem decodeRunFrom_error {m : Nat} {c : Colour} {total : Nat} {s : State} {cause : Cause}
    (hm : s.win.remaining ≤ m) (h : nextRunCode c s.win = .error cause) :
    decodeRunFrom m c total s = .ended (endLaunch true cause s) := by
  cases m with
  | zero =>
    have hv : s.win.valid = 0 := Nat.le_zero.1 (s.win.valid_le_remaining.trans hm)
    rw [nextRunCode_of_valid_zero c hv] at h
    cases h
    rfl
  | succ m => simp [decodeRunFrom, h]

theorem decodeRunFrom_ok {m : Nat} {c : Colour} {total : Nat} {s : State} {i : Instr}
    (h : nextRunCode c s.win = .ok i) :
    decodeRunFrom (m + 1) c total s =
      if i.terminates then .run (total + i.pixels s.cfg) (s.consume i.code.len)
      else decodeRunFrom m c (total + i.pixels s.cfg) (s.consume i.code.len) := by
  simp [decodeRunFrom, h]

/-! The machine inside a run: one step is one pass of `DecodeRun`. -/

/-- A run of colour `c` is being read in a launch that the host leaves alone. -/
structure State.ReadsRun (c : Colour) (s : State) : Prop where
  coding : s.phase.coding = true
  quiet : s.quiet
  colour : s.runColour? = some c

theorem State.dropStart_of_quiet {s : State} (h : s.quiet) : s.dropStart = s := by
  unfold State.dropStart
  rw [← h.2]

theorem launchStep_of_runColour {s : State} {c : Colour} (h : s.runColour? = some c) :
    launchStep s = runCodeStep c s := by
  unfold State.runColour? at h
  unfold launchStep
  split at h <;> cases h <;> simp_all

theorem step_of_readsRun {s : State} {c : Colour} (h : s.ReadsRun c) : step s = runCodeStep c s := by
  rw [step_launch h.coding h.quiet.1, State.dropStart_of_quiet h.quiet, launchStep_of_runColour h.colour]

/-- A run code found in a window with a valid bit is executed (R143). -/
theorem runCodeStep_of_runMatch {s : State} {c : Colour} {i : Instr} (hv : 0 < s.win.valid)
    (hm : runMatch s.win.peek16.1 c = some i) : runCodeStep c s = execRunCode i s := by
  simp [runCodeStep, hv.ne', hm, exec_runCode (runMatch_wellFormed hm)]

theorem step_nextRunCode_error {s : State} {c : Colour} {cause : Cause} (h : s.ReadsRun c)
    (he : nextRunCode c s.win = .error cause) : step s = .next (endLaunch true cause s) := by
  rw [step_of_readsRun h]
  rcases nextRunCode_cases c s.win with ⟨hv, e⟩ | ⟨hv, hm, e⟩ | ⟨i, hm, ⟨hl, e⟩ | ⟨_, _, e⟩⟩ <;> rw [e] at he <;>
    cases he
  · simp [runCodeStep, hv]
  · simp [runCodeStep, hv.ne', hm]
  · rcases Nat.eq_zero_or_pos s.win.valid with hv | hv
    · simp [runCodeStep, hv]
    · rw [runCodeStep_of_runMatch hv hm, execRunCode,
        if_pos (readsRunCode_of h.coding h.colour (runMatch_wellFormed hm)), if_pos hl, raiseFault_eq]

theorem step_nextRunCode_ok {s : State} {c : Colour} {i : Instr} (h : s.ReadsRun c)
    (ho : nextRunCode c s.win = .ok i) :
    step s = addRun i.terminates (i.pixels s.cfg) (s.consume i.code.len) := by
  obtain ⟨hv, hm, hl⟩ := nextRunCode_ok ho
  rw [step_of_readsRun h, runCodeStep_of_runMatch hv hm, execRunCode,
    if_pos (readsRunCode_of h.coding h.colour (runMatch_wellFormed hm)), if_neg hl.not_gt]

/-! The code-by-code execution. -/

theorem runCodesFrom_of_mode (n : Nat) {s : State} (h : s.reading = .mode) : runCodesFrom n s = .next s := by
  cases n <;> simp [runCodesFrom, h]

/-- A step inside a run that answers a next state goes on from there. -/
theorem runCodesFrom_step {n : Nat} {s t : State} {c : Colour} (h : s.ReadsRun c) (ht : step s = .next t) :
    runCodesFrom (n + 1) s = runCodesFrom n t := by
  have hc := h.colour
  cases hr : s.reading <;> simp_all [runCodesFrom, State.runColour?]

/-- A step inside a run that leaves no run to read is the last one. -/
theorem runCodesFrom_last_step {n : Nat} {s : State} {c : Colour} (h : s.ReadsRun c)
    (hlast : ∀ t, step s = .next t → t.reading = .mode) : runCodesFrom (n + 1) s = step s := by
  cases ht : step s with
  | next t => rw [runCodesFrom_step h ht, runCodesFrom_of_mode n (hlast t ht)]
  | fault e | refused e =>
    have hc := h.colour
    cases hr : s.reading <;> simp_all [runCodesFrom, State.runColour?]

/-- A run that cannot be read ends the code-by-code execution, at the place the machine is in. -/
theorem runCodesFrom_error {n : Nat} {s : State} {c : Colour} {cause : Cause} (h : s.ReadsRun c)
    (he : nextRunCode c s.win = .error cause) : runCodesFrom (n + 1) s = .next (endLaunch true cause s) := by
  rw [runCodesFrom_step h (step_nextRunCode_error h he), runCodesFrom_of_mode n rfl]

/-- The end of a step does not see the place inside the step it was reached from. -/
theorem finishStep_setReading (r : Reading) (s : State) : finishStep { s with reading := r } = finishStep s := rfl

/-! The two runs. -/

/-- What a HORIZONTAL step answers once its second run is read, after a first run of `r1` pixels (R186). -/
def afterSecondRun (r1 : Nat) : RunRead → Result
  | .ended t => .next t
  | .run r2 t => finishStep (horizontalFill r1 r2 t)

/-- What a HORIZONTAL step in colour `c` answers once its first run is read (R186). -/
def afterFirstRun (c : Colour) : RunRead → Result
  | .ended t => .next t
  | .run r1 t => afterSecondRun r1 (decodeRun c.opp t)

/-- The atomic step: the meaning of a backed H is its two runs read one after the other. -/
theorem exec_h_of_ready {s : State} (h : s.ready) (hv : 3 ≤ s.win.valid) :
    exec .h s = afterFirstRun s.color (decodeRun s.color (consumeMode .h s)) := by
  have hl : ¬ s.win.valid < Instr.h.code.len := Nat.not_lt.2 hv
  rw [exec_h, execMode, if_pos h, if_neg hl, horizontalAction, consumeMode_color]
  cases decodeRun s.color (consumeMode .h s) with
  | ended t => rfl
  | run r1 t =>
    simp only [afterFirstRun]
    cases decodeRun s.color.opp t <;> rfl

/-- Reading the second run code by code does what `DecodeRun` and the end of the step do. -/
theorem runCodesFrom_secondRun {n m r1 total : Nat} {s : State} (hp : s.phase.coding = true) (hq : s.quiet)
    (hw : s.win.inRange) (hn : s.win.remaining < n) (hm : s.win.remaining ≤ m) :
    runCodesFrom n { s with reading := .secondRun r1 total } =
      afterSecondRun r1 (decodeRunFrom m s.color.opp total s) := by
  induction n generalizing m total s with
  | zero => omega
  | succ n ih =>
    have hr : State.ReadsRun s.color.opp { s with reading := .secondRun r1 total } := ⟨hp, hq, rfl⟩
    cases ho : nextRunCode s.color.opp s.win with
    | error cause =>
      rw [runCodesFrom_error hr ho, decodeRunFrom_error hm ho]
      rfl
    | ok i =>
      obtain ⟨hw', hrem⟩ := consume_nextRunCode hw ho
      obtain ⟨m, rfl⟩ : ∃ k, m = k + 1 := ⟨m - 1, by omega⟩
      have hstep := step_nextRunCode_ok hr ho
      rw [decodeRunFrom_ok ho]
      cases ht : i.terminates with
      | true =>
        have hend : step { s with reading := .secondRun r1 total } =
            finishStep (horizontalFill r1 (total + i.pixels s.cfg) (s.consume i.code.len)) := by
          rw [hstep, ht]
          exact finishStep_setReading (.secondRun r1 total) (horizontalFill r1 _ (s.consume i.code.len))
        rw [runCodesFrom_last_step hr fun t h => finishStep_reading (hend ▸ h), hend]
        rfl
      | false =>
        have hnext : step { s with reading := .secondRun r1 total } =
            .next { s.consume i.code.len with reading := .secondRun r1 (total + i.pixels s.cfg) } := by
          rw [hstep, ht]; rfl
        rw [runCodesFrom_step hr hnext]
        exact ih hp hq hw' (hrem.trans_le (Nat.lt_succ_iff.1 hn)) (Nat.lt_succ_iff.1 (hrem.trans_le hm))

/-- Reading both runs code by code does what the atomic step does. -/
theorem runCodesFrom_firstRun {n m total : Nat} {s : State} (hp : s.phase.coding = true) (hq : s.quiet)
    (hw : s.win.inRange) (hn : s.win.remaining < n) (hm : s.win.remaining ≤ m) :
    runCodesFrom n { s with reading := .firstRun total } = afterFirstRun s.color (decodeRunFrom m s.color total s) := by
  induction n generalizing m total s with
  | zero => omega
  | succ n ih =>
    have hr : State.ReadsRun s.color { s with reading := .firstRun total } := ⟨hp, hq, rfl⟩
    cases ho : nextRunCode s.color s.win with
    | error cause =>
      rw [runCodesFrom_error hr ho, decodeRunFrom_error hm ho]
      rfl
    | ok i =>
      obtain ⟨hw', hrem⟩ := consume_nextRunCode hw ho
      obtain ⟨m, rfl⟩ : ∃ k, m = k + 1 := ⟨m - 1, by omega⟩
      have hstep := step_nextRunCode_ok hr ho
      rw [decodeRunFrom_ok ho]
      cases ht : i.terminates with
      | true =>
        have hnext : step { s with reading := .firstRun total } =
            .next { s.consume i.code.len with reading := .secondRun (total + i.pixels s.cfg) 0 } := by
          rw [hstep, ht]; rfl
        rw [runCodesFrom_step hr hnext]
        exact runCodesFrom_secondRun hp hq hw' (hrem.trans_le (Nat.lt_succ_iff.1 hn)) le_rfl
      | false =>
        have hnext : step { s with reading := .firstRun total } =
            .next { s.consume i.code.len with reading := .firstRun (total + i.pixels s.cfg) } := by
          rw [hstep, ht]; rfl
        rw [runCodesFrom_step hr hnext]
        exact ih hp hq hw' (hrem.trans_le (Nat.lt_succ_iff.1 hn)) (Nat.lt_succ_iff.1 (hrem.trans_le hm))

/-- Settles O37: the code-by-code execution of each run simulates `DecodeRun`, by induction on the steps left, which the
stream bits left bound. -/
theorem codeByCodeIsTheCodingStep : Obligations.CodeByCodeIsTheCodingStep := by
  intro s n hready hquiet hwf hvalid hn
  obtain ⟨hrange, hrem⟩ := Window.consume_inRange (Window.inRange_of_wf hwf) hvalid
  have hfuel : (consumeMode .h s).win.remaining < n := by
    change (s.win.consume 3).remaining < n
    omega
  rw [exec_h_of_ready hready hvalid]
  exact runCodesFrom_firstRun rfl hquiet hrange hfuel le_rfl

end Sys2Proof.Machine

namespace Sys2Proof.Machine

/-! SUPPORT. The Bit Window keeps its invariant (R22, R23): at START and under every consumption of backed bits. -/

/-- A window that nothing was read into shows any source (R113). -/
theorem Window.unread_shows (src : List Byte) :
    Window.shows { source := src, sourcePos := 0, buffer := 0, emptyBits := 32 } := by
  refine ⟨le_rfl, Nat.zero_le _, le_rfl, fun j _ => ?_⟩
  simp [Window.valid]

theorem Window.construct_wf (src : List Byte) : (Window.construct src).wf :=
  Window.refill_wf _ (Window.unread_shows src)

@[simp] theorem Window.construct_position (src : List Byte) : (Window.construct src).position = 0 := by
  obtain ⟨-, -, -, hpos, -⟩ :=
    Window.refill_moves { source := src, sourcePos := 0, buffer := 0, emptyBits := 32 } le_rfl (Nat.zero_le _) le_rfl
  exact hpos

/-- Shifting backed bits out leaves a window that shows the rest of the stream (R115). -/
theorem Window.shift_shows {w : Window} {n : Nat} (h : w.wf) (hn : n ≤ w.valid) :
    Window.shows { w with buffer := w.buffer <<< n, emptyBits := w.emptyBits + n } := by
  obtain ⟨he, hp, hv, -, hbits⟩ := h
  simp only [Window.shows, Window.valid, Window.streamBits, Window.position, Window.sourceBits] at *
  refine ⟨by omega, hp, by omega, fun j hj => ?_⟩
  rw [BitVec.getMsbD_shiftLeft]
  by_cases hlt : j + n < 32 - w.emptyBits
  · have hpos : 8 * w.sourcePos - (32 - w.emptyBits) + (j + n) = 8 * w.sourcePos - (32 - (w.emptyBits + n)) + j := by
      omega
    have hj' : j < 32 - (w.emptyBits + n) := by omega
    rw [hbits (j + n) (by omega)]
    simp only [List.getD_eq_getElem?_getD, List.getElem?_drop, hpos, hlt, hj']
  · have hj' : ¬ j < 32 - (w.emptyBits + n) := by omega
    by_cases h32 : j + n < 32
    · rw [hbits (j + n) h32]; simp [hlt, hj']
    · simp [BitVec.getMsbD, hj', h32]

/-- Consuming backed bits keeps the window well formed (R115, R121). -/
theorem Window.consume_wf {w : Window} {n : Nat} (h : w.wf) (hn : n ≤ w.valid) : (w.consume n).wf :=
  Window.refill_wf _ (Window.shift_shows h hn)

/-! SUPPORT. The invariant in the middle of a line. Inside a step the position may have reached the width, so the
invariant of the machine does not hold there; `State.InLine` is what does hold, from the consumption of a mode code (R176)
to the line completion (R195). -/

/-- The invariant of a launch whose line has begun, except that `a0` may have reached the width. -/
structure State.InLine (s : State) : Prop where
  phase : s.phase = .within
  status : s.statusInv
  out : s.outInv
  bound : withinBound s.lines s.cfg.maxLines = true
  win : s.win.wf
  consumed : s.status.consumed = s.win.position
  width : 1 ≤ s.width
  refLength : s.ref.length = s.width
  curLength : s.cur.length = s.width
  written : ∀ x < s.a0, x < s.width → s.cur.getD x none ≠ none
  reference : s.refInv

/-- A state of the invariant in a launch is in the middle of a line once a mode code is read (R176). -/
theorem State.inLine_of_inv {s : State} (h : s.inv) (hc : s.phase.coding = true) :
    State.InLine { s with phase := .within } := by
  obtain ⟨⟨hbusy, hdone, hlines, hcause, herror, hpartial⟩, hout, hbound, -, hlaunch⟩ := h
  obtain ⟨hwin, hcons, ⟨hwidth, href, hcur, -, hwritten, -⟩, hrefInv, -⟩ := hlaunch hc
  have hnd : s.phase ≠ .done := by rintro e; rw [e] at hc; cases hc
  exact
    { phase := rfl
      status := ⟨hbusy.trans hc, by simpa [hc, hnd] using hdone, hlines, by simpa [hnd] using hcause, herror,
        fun _ => hpartial hnd⟩
      out := hout
      bound := hbound
      win := hwin
      consumed := hcons
      width := hwidth
      refLength := href
      curLength := hcur
      written := fun x hx _ => hwritten x hx
      reference := hrefInv }

/-- Consuming backed bits inside a line (R115). -/
theorem State.InLine.consume {s : State} (h : s.InLine) {n : Nat} (hn : n ≤ s.win.valid) : (s.consume n).InLine :=
  { h with win := Window.consume_wf h.win hn, consumed := rfl }

/-- A mode code begins its line, or goes on in it (R176). -/
theorem State.inLine_consumeMode {s : State} (h : s.inv) (hc : s.phase.coding = true) {i : Instr}
    (hi : i.code.len ≤ s.win.valid) : (consumeMode i s).InLine :=
  (State.inLine_of_inv h hc).consume hi

/-- The place inside the step is no part of what a line keeps. -/
theorem State.InLine.setReading {s : State} (h : s.InLine) (r : Reading) : State.InLine { s with reading := r } :=
  { h with }

/-- With the position inside the line again the invariant holds, at the top of a step and inside a run alike. -/
theorem State.InLine.inv {s : State} (h : s.InLine) (ha : s.a0 < s.width) (hr : s.reading ≠ .endOfBlock) : s.inv :=
  have hc : s.phase.coding = true := by rw [h.phase]; rfl
  have hline : s.lineInv :=
    ⟨h.width, h.refLength, h.curLength, ha, fun x hx => h.written x hx (hx.trans ha), by simp [h.phase]⟩
  ⟨h.status, h.out, h.bound, by simp [hc],
    fun _ => ⟨h.win, h.consumed, hline, h.reference, fun _ => h.phase, fun e => absurd e hr⟩⟩

/-- A fill from the position on (R181), to which the position moves: PASS, VERTICAL and each run of HORIZONTAL. -/
theorem State.InLine.fillTo {s : State} (h : s.InLine) (hi : Nat) (c d : Colour) :
    State.InLine { s.fill s.a0 hi c with a0 := hi, color := d } :=
  { h with
    curLength := (fillFrom_length ..).trans h.curLength
    written := by
      intro x hx hw
      change x < hi at hx
      change x < s.width at hw
      have hx' : x < s.cur.length := hw.trans_eq h.curLength.symm
      simp only [State.fill_cur, List.getD_eq_getElem?_getD, fillFrom_getElem?, Nat.zero_add]
      by_cases ha : x < s.a0
      · simpa [ha.not_ge] using h.written x ha hw
      · simp [Nat.le_of_not_lt ha, hx, hw, hx'] }

/-! SUPPORT. The end of a launch and of a line. -/

/-- A next state, if one is answered, meets the invariant. -/
def AnswersInv (r : Result) : Prop := ∀ t, r = .next t → t.inv

theorem answersInv_next {s : State} (h : s.inv) : AnswersInv (.next s) := by
  rintro _ ⟨⟩
  exact h

theorem answersInv_fault (e : Fault) : AnswersInv (.fault e) := by
  rintro _ ⟨⟩

theorem answersInv_refused (e : Refusal) : AnswersInv (.refused e) := by
  rintro _ ⟨⟩

/-- Ending a launch asks only that the emitted lines are in order and that ERROR goes with the cause (R231 to R233). -/
theorem endLaunch_inv {s : State} (hout : s.outInv) (hbound : withinBound s.lines s.cfg.maxLines = true) {e : Bool}
    {c : Cause} (he : e = decide (8 ≤ c.code.toNat)) (hc : c ≠ .none) : (endLaunch e c s).inv :=
  ⟨⟨rfl, rfl, rfl, by simp [endStatus, hc], he, fun h => absurd rfl h⟩, hout, hbound, fun _ => rfl, nofun⟩

/-- A launch may end in any state of the invariant (R231 to R233). -/
theorem State.inv.ended {s : State} (h : s.inv) {e : Bool} {c : Cause} (he : e = decide (8 ≤ c.code.toNat))
    (hc : c ≠ .none) : (endLaunch e c s).inv := by
  obtain ⟨-, hout, hbound, -⟩ := h
  exact endLaunch_inv hout hbound he hc

/-- A line is emitted only below the line limit (R195, R244). -/
theorem withinBound_succ_of_not_atLineLimit {s : State} (h : withinBound s.lines s.cfg.maxLines = true)
    (hl : s.atLineLimit = false) : withinBound (s.lines + 1) s.cfg.maxLines = true := by
  unfold State.atLineLimit at hl
  cases hm : s.cfg.maxLines with
  | none => rfl
  | some m =>
    simp only [hm, withinBound, decide_eq_true_eq] at h
    simp only [hm, beq_eq_false_iff_ne, ne_eq, Option.some.injEq] at hl
    simp only [withinBound, decide_eq_true_eq]
    omega

theorem State.pixelByte_eq_or (s : State) (c : Colour) :
    s.pixelByte c = s.cfg.pixelWhite ∨ s.pixelByte c = s.cfg.pixelBlack := by
  unfold State.pixelByte
  split <;> simp

/-- The emitted line is read back pixel by pixel (R196). -/
theorem State.emit_out_read_line (s : State) {px : List Colour} (hlen : px.length = s.width) {x : Nat}
    (hx : x < s.width) : (s.emit px).out.read (s.lines * s.width + x) = (px[x]?).map s.pixelByte := by
  rw [State.emit_out, Memory.read_writeLine, if_pos ⟨Nat.le_add_right _ _, by simp [hlen, hx]⟩]
  simp

/-- Emission keeps the bytes of the lines before it (R72). -/
theorem State.emit_out_read_below (s : State) (px : List Colour) {a : Nat} (ha : a < s.lines * s.width) :
    (s.emit px).out.read a = s.out.read a := by
  rw [State.emit_out, Memory.read_writeLine, if_neg (by omega)]

/-- Emission adds one line of pixel bytes to `OUT` (R64, R196). -/
theorem State.emit_outInv {s : State} (h : s.outInv) {px : List Colour} (hlen : px.length = s.width) :
    (s.emit px).outInv := by
  obtain ⟨hwf, hbytes⟩ := h
  refine ⟨Memory.wf_writeLine hwf _ _, fun a ha => ?_⟩
  change a < (s.lines + 1) * s.width at ha
  rcases Nat.lt_or_ge a (s.lines * s.width) with hlt | hge
  · rw [State.emit_out_read_below s px hlt]
    exact hbytes a hlt
  · obtain ⟨x, rfl⟩ := Nat.exists_eq_add_of_le hge
    have hx : x < s.width := by rw [Nat.succ_mul] at ha; omega
    rw [State.emit_out_read_line s hlen hx, List.getElem?_eq_getElem (hx.trans_eq hlen.symm)]
    simpa using s.pixelByte_eq_or px[x]

/-- The new line of R195 meets the invariant, once its end-of-block check is done. -/
theorem State.InLine.newLine_inv {s : State} (h : s.InLine) (hl : s.atLineLimit = false) {px : List Colour}
    (hlen : px.length = s.width) : State.inv { (s.emit px).newLine px with reading := .mode } := by
  obtain ⟨hbusy, hdone, -, hcause, herror, hpartial⟩ := h.status
  have href : ((s.emit px).newLine px).refInv :=
    ⟨nofun, fun _ x hx => State.emit_out_read_line s hlen hx⟩
  have hline : ((s.emit px).newLine px).lineInv :=
    ⟨h.width, hlen, List.length_replicate, h.width, nofun, fun _ => ⟨rfl, rfl⟩⟩
  refine ⟨⟨?_, ?_, rfl, ?_, herror, fun _ => ?_⟩, State.emit_outInv h.out hlen,
    withinBound_succ_of_not_atLineLimit h.bound hl, nofun, fun _ => ⟨h.win, h.consumed, hline, href, nofun, nofun⟩⟩
  · simpa [h.phase, Phase.coding] using hbusy
  · simpa [h.phase] using hdone
  · simpa [h.phase] using hcause
  · exact hpartial (by simp [h.phase])

theorem State.InLine.answersInv_completeLine {s : State} (h : s.InLine) : AnswersInv (completeLine s) := by
  rcases completeLine_cases s with ⟨_, e⟩ | ⟨_, _, e⟩ | ⟨line, hl, hw, e⟩ <;> rw [e]
  · exact answersInv_next (endLaunch_inv h.out h.bound rfl nofun)
  · exact answersInv_fault _
  · have hnew := h.newLine_inv hl (writtenPixels_getElem? hw).1
    rcases ((s.emit line).newLine line).checkEndOfBlock_cases with ⟨_, e'⟩ | ⟨_, e'⟩ <;> rw [e']
    · exact answersInv_next (hnew.ended rfl nofun)
    · exact answersInv_next hnew

/-- The end of a step (R171 step 6): the position is inside the line, or the line completes. -/
theorem State.InLine.answersInv_finishStep {s : State} (h : s.InLine) : AnswersInv (finishStep s) := by
  rcases finishStep_cases s with ⟨ha, e⟩ | ⟨_, e⟩ <;> rw [e]
  · exact answersInv_next ((h.setReading .mode).inv ha nofun)
  · exact h.answersInv_completeLine

/-! SUPPORT. The actions of the modes (R177). -/

/-- A run leaves the machine in the middle of its line, or ends the launch in a state of the invariant. -/
def RunRead.KeepsInv : RunRead → Prop
  | .run _ t => t.InLine
  | .ended t => t.inv

/-- An action leaves the machine in the middle of its line, or ends the launch in a state of the invariant. -/
def ActionEnd.KeepsInv : ActionEnd → Prop
  | .goesOn t => t.InLine
  | .ended t => t.inv

/-- The causes with which the checks of R143 end a launch are faults. -/
theorem nextRunCode_error {c : Colour} {w : Window} {cause : Cause} (h : nextRunCode c w = .error cause) :
    cause = .unexpectedEnd ∨ cause = .corruptRunCode := by
  rcases nextRunCode_cases c w with ⟨_, e⟩ | ⟨_, _, e⟩ | ⟨i, _, ⟨_, e⟩ | ⟨_, _, e⟩⟩ <;> rw [e] at h <;> cases h
  · exact .inl rfl
  · exact .inr rfl
  · exact .inl rfl

theorem State.InLine.keepsInv_decodeRunFrom {s : State} (h : s.InLine) (n : Nat) (c : Colour) (total : Nat) :
    (decodeRunFrom n c total s).KeepsInv := by
  induction n generalizing total s with
  | zero => exact endLaunch_inv h.out h.bound rfl nofun
  | succ n ih =>
    cases ho : nextRunCode c s.win with
    | error cause =>
      rw [show decodeRunFrom (n + 1) c total s = .ended (endLaunch true cause s) by simp [decodeRunFrom, ho]]
      rcases nextRunCode_error ho with rfl | rfl <;> exact endLaunch_inv h.out h.bound rfl nofun
    | ok i =>
      obtain ⟨-, -, hlen⟩ := nextRunCode_ok ho
      have hs := h.consume hlen
      rw [decodeRunFrom_ok ho]
      split
      · exact hs
      · exact ih hs _

theorem State.InLine.keepsInv_decodeRun {s : State} (h : s.InLine) (c : Colour) : (decodeRun c s).KeepsInv :=
  h.keepsInv_decodeRunFrom s.win.remaining c 0

theorem State.InLine.keepsInv_pass {s : State} (h : s.InLine) : (passAction s).KeepsInv :=
  h.fillTo (findB s).2 s.color s.color

theorem State.InLine.keepsInv_vertical {s : State} (h : s.InLine) (k : Int) : (verticalAction k s).KeepsInv := by
  unfold verticalAction
  split
  · exact endLaunch_inv h.out h.bound rfl nofun
  · exact h.fillTo _ _ _

/-- The two fills of HORIZONTAL, one after the other (R186). -/
theorem State.InLine.fillRuns {s : State} (h : s.InLine) (r1 r2 : Nat) : (horizontalFill r1 r2 s).InLine :=
  (h.fillTo (s.a0 + r1) s.color s.color).fillTo (s.a0 + r1 + r2) s.color.opp (colourAfterHorizontal s.cfg s.color)

theorem State.InLine.keepsInv_horizontal {s : State} (h : s.InLine) : (horizontalAction s).KeepsInv := by
  have hfirst := h.keepsInv_decodeRun s.color
  unfold horizontalAction
  cases e : decodeRun s.color s with
  | ended t =>
    rw [e] at hfirst
    exact hfirst
  | run r1 t =>
    rw [e] at hfirst
    have hsecond := State.InLine.keepsInv_decodeRun hfirst s.color.opp
    dsimp only
    cases e' : decodeRun s.color.opp t with
    | ended u =>
      rw [e'] at hsecond
      exact hsecond
    | run r2 u =>
      rw [e'] at hsecond
      exact State.InLine.fillRuns hsecond r1 r2

/-! SUPPORT. The meanings, at the place where each is read. -/

/-- A mode code keeps the invariant if its action does. -/
theorem State.inv.answersInv_execMode {s : State} (h : s.inv) (hready : s.ready) {action : State → ActionEnd}
    (haction : ∀ u : State, u.InLine → (action u).KeepsInv) (i : Instr) : AnswersInv (execMode i action s) := by
  rcases execMode_ready hready i action with ⟨_, e⟩ | ⟨hlen, hgo⟩
  · rw [e]
    exact answersInv_next (h.ended rfl nofun)
  · have hkeeps := haction _ (State.inLine_consumeMode h hready.1 hlen)
    rcases hgo with ⟨t, ht, e⟩ | ⟨t, ht, e⟩ <;> rw [e] <;> rw [ht] at hkeeps
    · exact answersInv_next hkeeps
    · exact State.InLine.answersInv_finishStep hkeeps

theorem State.inv.answersInv_modeCode {s : State} (h : s.inv) (hready : s.ready) {i : Instr}
    (hi : i.wellFormed .mode = true) : AnswersInv (exec i s) := by
  rcases mode_cases hi with rfl | rfl | rfl | ⟨k, hk⟩
  · exact h.answersInv_execMode hready (fun _ hu => hu.keepsInv_pass) .p
  · exact h.answersInv_execMode hready (fun _ hu => hu.keepsInv_horizontal) .h
  · rw [exec_ext, execUnrecognized, if_pos hready]
    exact answersInv_next (h.ended rfl nofun)
  · rw [exec_vertical hk]
    exact h.answersInv_execMode hready (fun _ hu => hu.keepsInv_vertical k) i

theorem State.inv.answersInv_codingStep {s : State} (h : s.inv) (hready : s.ready) : AnswersInv (codingStep s) := by
  rcases codingStep_cases s with ⟨_, e⟩ | ⟨_, _, e⟩ | ⟨_, _, _, e⟩ | ⟨i, _, _, _, hi, e⟩ <;> rw [e]
  · exact answersInv_next (h.ended rfl nofun)
  · exact answersInv_next (h.ended rfl nofun)
  · exact answersInv_next (h.ended rfl nofun)
  · exact h.answersInv_modeCode hready hi

/-- A code added to its run leaves the machine inside the run, or ends the step (R143, R186). -/
theorem State.InLine.answersInv_addRun {s : State} (h : s.InLine) (ha : s.a0 < s.width) (terminates : Bool)
    (pixels : Nat) : AnswersInv (addRun terminates pixels s) := by
  unfold addRun
  split
  · refine answersInv_next ((h.setReading _).inv ha ?_)
    cases terminates <;> nofun
  · split
    · exact (h.fillRuns _ _).answersInv_finishStep
    · exact answersInv_next ((h.setReading _).inv ha nofun)
  · exact answersInv_refused _
  · exact answersInv_refused _

theorem State.inv.answersInv_runCodeStep {s : State} (h : s.inv) (hcoding : s.phase.coding = true) {c : Colour}
    (hc : s.runColour? = some c) : AnswersInv (runCodeStep c s) := by
  rcases runCodeStep_cases c s with ⟨_, e⟩ | ⟨_, _, e⟩ | ⟨i, _, _, hi, e⟩ <;> rw [e]
  · exact answersInv_next (h.ended rfl nofun)
  · exact answersInv_next (h.ended rfl nofun)
  · rcases execRunCode_reads (readsRunCode_of hcoding hc hi) with ⟨_, e'⟩ | ⟨hlen, e'⟩ <;> rw [e']
    · exact answersInv_next (h.ended rfl nofun)
    · have hline := State.inLine_of_inv h hcoding
      obtain ⟨-, -, -, -, hlaunch⟩ := h
      obtain ⟨-, -, ⟨-, -, -, ha, -⟩, -, hreading, -⟩ := hlaunch hcoding
      have hwithin : s.phase = .within := hreading (by rw [hc]; rfl)
      rw [← hwithin] at hline
      exact (hline.consume hlen).answersInv_addRun ha _ _

/-- The end-of-block check by itself ends the launch, or only moves on to the top of the next step (R197). -/
theorem State.inv.answersInv_endOfBlockStep {s : State} (h : s.inv) (hcoding : s.phase.coding = true)
    (hr : s.reading = .endOfBlock) : AnswersInv (endOfBlockStep s) := by
  unfold endOfBlockStep
  split
  · rw [exec_eob, execEob, if_pos ⟨hcoding, hr⟩]
    exact answersInv_next (h.ended rfl nofun)
  · obtain ⟨hstatus, hout, hbound, -, hlaunch⟩ := h
    obtain ⟨hwin, hcons, hline, href, -⟩ := hlaunch hcoding
    exact answersInv_next
      ⟨hstatus, hout, hbound, fun _ => rfl, fun _ => ⟨hwin, hcons, hline, href, nofun, nofun⟩⟩

theorem State.inv.answersInv_launchStep {s : State} (h : s.inv) (hcoding : s.phase.coding = true) :
    AnswersInv (launchStep s) := by
  unfold launchStep
  split
  case h_1 hr => exact h.answersInv_codingStep ⟨hcoding, hr⟩
  case h_2 hr => exact h.answersInv_runCodeStep hcoding (by simp [State.runColour?, hr])
  case h_3 hr => exact h.answersInv_runCodeStep hcoding (by simp [State.runColour?, hr])
  case h_4 hr => exact h.answersInv_endOfBlockStep hcoding hr

/-! The invariant of the whole machine. -/

theorem withinBound_zero (b : Option Nat) : withinBound 0 b = true := by
  cases b <;> simp [withinBound]

/-- Before the first line the invariant asks of `OUT` only its canonical form (R64). -/
theorem State.outInv_of_noLines {s : State} (hwf : s.out.wf) (hl : s.lines = 0) : s.outInv :=
  ⟨hwf, fun a ha => absurd ha (by simp [hl])⟩

/-- RST keeps `OUT` and forgets its lines (R260, R261). -/
theorem applyReset_inv {s : State} (hwf : s.out.wf) : (applyReset s).inv :=
  have hstatus : State.reset.statusInv := by decide
  ⟨hstatus, State.outInv_of_noLines hwf rfl, withinBound_zero _, fun _ => rfl, nofun⟩

/-- The START values meet the invariant of a launch (R263). -/
theorem beginLaunch_inv {s : State} (hwf : s.out.wf) {width : Nat} (hwidth : 1 ≤ width) (invert : Bool)
    (src : List Byte) : (beginLaunch width invert src s).inv := by
  have hline : (beginLaunch width invert src s).lineInv :=
    ⟨hwidth, List.length_replicate, List.length_replicate, hwidth, nofun, fun _ => ⟨rfl, rfl⟩⟩
  have href : (beginLaunch width invert src s).refInv := ⟨fun _ => rfl, nofun⟩
  have hstatus : (beginLaunch width invert src s).statusInv := by
    simp [State.statusInv, Status.clear, Phase.coding, Cause.code]
  exact ⟨hstatus, State.outInv_of_noLines hwf rfl, withinBound_zero _, nofun, fun _ =>
    ⟨Window.construct_wf src, (Window.construct_position src).symm, hline, href, nofun, nofun⟩⟩

/-- START begins a launch, or ends it at once with CONFIG_INVALID (R262, R243). -/
theorem applyStart_inv {s : State} (hwf : s.out.wf) : (applyStart s).inv := by
  rcases applyStart_cases s with ⟨hvalid, e⟩ | ⟨_, e⟩ <;> rw [e]
  · simp only [State.configValid, Bool.and_eq_true, decide_eq_true_eq] at hvalid
    obtain ⟨⟨hwidth, -⟩, -⟩ := hvalid
    exact beginLaunch_inv hwf hwidth _ _
  · exact endLaunch_inv (s := s.dropStart.clearStatus) (State.outInv_of_noLines hwf rfl) (withinBound_zero _) rfl nofun

/-- Settles O45, by the rows of the transition: reset and START set the invariant up, and in a launch each place of the
step keeps it, through `State.InLine` between a mode code and the end of its step. -/
theorem stepKeepsTheInvariant : Obligations.StepKeepsTheInvariant := by
  intro s t hs
  suffices h : AnswersInv (step s) from h t
  have ⟨_, ⟨hwf, _⟩, _⟩ := hs
  rcases step_cases s with ⟨_, e⟩ | ⟨_, _, _, e⟩ | ⟨_, _, _, e⟩ | ⟨_, hcoding, e⟩ <;> rw [e]
  · exact answersInv_next (applyReset_inv hwf)
  · exact answersInv_next (applyStart_inv hwf)
  · exact answersInv_next hs
  · exact State.inv.answersInv_launchStep (s := s.dropStart) hs hcoding

/-! What a launch latched (R32, R33, R37, R63, R74). -/

theorem sameLaunch_endLaunch (e : Bool) (c : Cause) (s : State) : SameLaunch s (endLaunch e c s) :=
  ⟨rfl, rfl, rfl, rfl, rfl⟩

theorem sameLaunch_codingStep {s t : State} (h : codingStep s = .next t) : SameLaunch s t := by
  rcases codingStep_cases s with ⟨_, e⟩ | ⟨_, _, e⟩ | ⟨_, _, _, e⟩ | ⟨i, _, _, _, _, e⟩ <;> rw [e] at h
  · cases h; exact sameLaunch_endLaunch ..
  · cases h; exact sameLaunch_endLaunch ..
  · cases h; exact sameLaunch_endLaunch ..
  · exact sameLaunch_exec h

theorem sameLaunch_runCodeStep {c : Colour} {s t : State} (h : runCodeStep c s = .next t) : SameLaunch s t := by
  rcases runCodeStep_cases c s with ⟨_, e⟩ | ⟨_, _, e⟩ | ⟨i, _, _, hi, e⟩ <;> rw [e] at h
  · cases h; exact sameLaunch_endLaunch ..
  · cases h; exact sameLaunch_endLaunch ..
  · exact sameLaunch_exec ((exec_runCode hi s).trans h)

theorem sameLaunch_endOfBlockStep {s t : State} (h : endOfBlockStep s = .next t) : SameLaunch s t := by
  unfold endOfBlockStep at h
  split at h
  · exact sameLaunch_exec h
  · cases h; exact ⟨rfl, rfl, rfl, rfl, rfl⟩

theorem sameLaunch_launchStep {s t : State} (h : launchStep s = .next t) : SameLaunch s t := by
  unfold launchStep at h
  split at h
  · exact sameLaunch_codingStep h
  · exact sameLaunch_runCodeStep h
  · exact sameLaunch_runCodeStep h
  · exact sameLaunch_endOfBlockStep h

@[simp] theorem applyStart_cfg (s : State) : (applyStart s).cfg = s.cfg := by
  rcases applyStart_cases s with ⟨_, e⟩ | ⟨_, e⟩ <;> rw [e] <;> rfl

/-- Settles O51, by the rows of the transition: outside a launch only the build is claimed, and in a launch no place of
the step writes what `SameLaunch` names. -/
theorem latchedValuesStayConstant : Obligations.LatchedValuesStayConstant := by
  intro s t h
  rcases step_cases s with ⟨hr, e⟩ | ⟨_, hp, _, e⟩ | ⟨_, hp, _, e⟩ | ⟨_, _, e⟩ <;> rw [e] at h
  · cases h; exact ⟨rfl, fun _ hr' => by simp [hr] at hr'⟩
  · cases h; exact ⟨applyStart_cfg s, fun hp' => by simp [hp] at hp'⟩
  · cases h; exact ⟨rfl, fun hp' => by simp [hp] at hp'⟩
  · have hsame := sameLaunch_launchStep h
    exact ⟨hsame.cfg, fun _ _ => ⟨hsame.source, hsame.width, hsame.invert⟩⟩

/-! The host's reads (R41, R72, R274). -/

/-- Below the emitted lines the host reads `OUT` itself, in any phase. -/
theorem hostRead_of_lt {s : State} {a : Nat} (ha : a < s.status.lines * s.width) : hostRead a s = s.out.read a :=
  if_neg fun h => ha.not_ge h.2

theorem hostRead_of_coding_of_ge {s : State} {a : Nat} (hc : s.phase.coding = true)
    (ha : s.status.lines * s.width ≤ a) : hostRead a s = none :=
  if_pos ⟨hc, ha⟩

/-- Settles O56: `LINES` is the number of emitted lines, whose bytes the invariant keeps in `OUT`. -/
theorem hostReadsEmittedLines : Obligations.HostReadsEmittedLines := by
  intro s a ⟨⟨_, _, hlines, _⟩, ⟨_, hbytes⟩, _⟩ hc
  refine ⟨fun ha => ?_, hostRead_of_coding_of_ge hc⟩
  rw [hostRead_of_lt ha]
  exact hbytes a (hlines ▸ ha)

end Sys2Proof.Machine

namespace Sys2Proof.Machine

/-! SUPPORT. The lookahead (R68, R111, R114): how much of the stream is left, and each narrower peek as a part of the wider
one. -/

/-- The stream bits left are the ones `remaining` counts (R24, R123). -/
theorem Window.streamBits_length {w : Window} (h : w.inRange) : w.streamBits.length = w.remaining := by
  obtain ⟨-, hp, hv⟩ := h
  simp only [Window.streamBits, Window.sourceBits, Window.position, Window.remaining, List.length_drop,
    flatMap_byteBits_length]
  omega

/-- With fewer than 25 bits valid the source is exhausted, so the stream has no bit past the valid ones (R121). -/
theorem Window.streamBits_getD_of_valid_le {w : Window} (h : w.wf) {j : Nat} (hj : j < 25) (hv : w.valid ≤ j) :
    w.streamBits.getD j false = false := by
  have hlen := Window.streamBits_length (Window.inRange_of_wf h)
  obtain ⟨-, -, -, hfull, -⟩ := h
  have hend : w.sourcePos = w.source.length := hfull.resolve_left (by unfold Window.valid at hv; omega)
  refine List.getD_eq_default _ _ ?_
  rw [hlen, Window.remaining, hend]
  omega

/-- Each of the first 25 bits of the lookahead is the stream's, 0 past its end (R66, R111). -/
theorem Window.peek32_getMsbD {w : Window} (h : w.wf) {j : Nat} (hj : j < 25) :
    w.peek32.1.getMsbD j = w.streamBits.getD j false := by
  have ⟨_, _, _, _, hbits⟩ := h
  rw [Window.peek32, hbits j (by omega)]
  rcases Nat.lt_or_ge j w.valid with hv | hv
  · simp [hv]
  · rw [Window.streamBits_getD_of_valid_le h hj hv, Bool.and_false]

theorem Window.peek16_eq_peek32 (w : Window) : w.peek16.1 = (w.peek32.1 >>> 16).setWidth 16 :=
  BitVec.setWidth_ushiftRight_eq_extractLsb.symm

theorem Window.peek8_eq_peek16 (w : Window) : w.peek8.1 = (w.peek16.1 >>> 8).setWidth 8 := by
  ext i hi
  have hlow : 8 + i < 16 := by omega
  have hbit : 24 + i = 16 + (8 + i) := by omega
  simp [Window.peek8, Window.peek16, hlow, hbit]

/-- Settles O4: below the valid bits the window shows the stream, and with fewer than 25 of them the stream ends there. -/
theorem lookaheadShowsTheStream : Obligations.LookaheadShowsTheStream := fun w h =>
  ⟨fun _ hj => Window.peek32_getMsbD h hj, w.peek16_eq_peek32, w.peek8_eq_peek16, rfl, rfl, rfl⟩

/-! SUPPORT. Who writes `OUT` (R64, R70, R72): emission alone, one line at a time. -/

/-- `OUT`, the number of its lines and what fixes the place and the bytes of the next one are as before. -/
structure KeepsOut (s t : State) : Prop where
  cfg : t.cfg = s.cfg
  width : t.width = s.width
  lines : t.lines = s.lines
  out : t.out = s.out

theorem KeepsOut.trans {s t u : State} (h : KeepsOut s t) (k : KeepsOut t u) : KeepsOut s u :=
  ⟨k.cfg.trans h.cfg, k.width.trans h.width, k.lines.trans h.lines, k.out.trans h.out⟩

/-- `OUT` stays, or the next line is emitted and only its own bytes are written, each a pixel byte. -/
def WritesAtMostNextLine (s t : State) : Prop :=
  (t.lines = s.lines ∧ t.out = s.out) ∨
    (t.lines = s.lines + 1 ∧
      (∀ a, a < s.lines * s.width ∨ (s.lines + 1) * s.width ≤ a → t.out.read a = s.out.read a) ∧
      ∀ a, s.lines * s.width ≤ a → a < (s.lines + 1) * s.width →
        t.out.read a = some s.cfg.pixelWhite ∨ t.out.read a = some s.cfg.pixelBlack)

theorem KeepsOut.writes {s t : State} (h : KeepsOut s t) : WritesAtMostNextLine s t := .inl ⟨h.lines, h.out⟩

/-- What came before a write and kept `OUT` is no part of what was written. -/
theorem KeepsOut.trans_writes {s t u : State} (h : KeepsOut s t) (k : WritesAtMostNextLine t u) :
    WritesAtMostNextLine s u := by
  unfold WritesAtMostNextLine at *
  rwa [h.cfg, h.width, h.lines, h.out] at k

/-- What comes after a write and keeps `OUT` changes nothing of what was written. -/
theorem WritesAtMostNextLine.trans_keeps {s t u : State} (h : WritesAtMostNextLine s t) (k : KeepsOut t u) :
    WritesAtMostNextLine s u := by
  unfold WritesAtMostNextLine at *
  rwa [k.lines, k.out]

/-- Emission keeps the bytes above its line (R72). -/
theorem State.emit_out_read_above (s : State) {px : List Colour} (hlen : px.length = s.width) {a : Nat}
    (ha : (s.lines + 1) * s.width ≤ a) : (s.emit px).out.read a = s.out.read a := by
  rw [Nat.succ_mul] at ha
  rw [State.emit_out, Memory.read_writeLine, List.length_map, hlen, if_neg (by omega)]

/-- Every byte of the emitted line is a pixel byte (R196). -/
theorem State.emit_out_read_pixelByte (s : State) {px : List Colour} (hlen : px.length = s.width) {a : Nat}
    (hlo : s.lines * s.width ≤ a) (hhi : a < (s.lines + 1) * s.width) :
    (s.emit px).out.read a = some s.cfg.pixelWhite ∨ (s.emit px).out.read a = some s.cfg.pixelBlack := by
  obtain ⟨x, rfl⟩ := Nat.exists_eq_add_of_le hlo
  have hx : x < s.width := by rw [Nat.succ_mul] at hhi; omega
  rw [State.emit_out_read_line s hlen hx, List.getElem?_eq_getElem (hx.trans_eq hlen.symm)]
  simpa using s.pixelByte_eq_or px[x]

theorem State.emit_writes (s : State) {px : List Colour} (hlen : px.length = s.width) :
    WritesAtMostNextLine s (s.emit px) :=
  .inr ⟨rfl, fun _ ha => ha.elim (State.emit_out_read_below s px) (State.emit_out_read_above s hlen),
    fun _ => State.emit_out_read_pixelByte s hlen⟩

/-! What a launch is made of. -/

theorem keepsOut_endLaunch (e : Bool) (c : Cause) (s : State) : KeepsOut s (endLaunch e c s) := ⟨rfl, rfl, rfl, rfl⟩

theorem keepsOut_onlyRead {s t : State} (h : onlyRead s t) : KeepsOut s t := by
  obtain ⟨h, -⟩ := h
  constructor <;> rw [h]

theorem keepsOut_checkEndOfBlock (s : State) : KeepsOut s s.checkEndOfBlock := by
  rcases s.checkEndOfBlock_cases with ⟨_, e⟩ | ⟨_, e⟩ <;> rw [e] <;> exact ⟨rfl, rfl, rfl, rfl⟩

theorem completeLine_writes {s t : State} (h : completeLine s = .next t) : WritesAtMostNextLine s t := by
  rcases completeLine_cases s with ⟨_, e⟩ | ⟨_, _, e⟩ | ⟨px, _, hw, e⟩ <;> rw [e] at h <;> cases h
  · exact (keepsOut_endLaunch ..).writes
  · have hnew : KeepsOut (s.emit px) ((s.emit px).newLine px) := ⟨rfl, rfl, rfl, rfl⟩
    exact (s.emit_writes (writtenPixels_getElem? hw).1).trans_keeps (hnew.trans (keepsOut_checkEndOfBlock _))

theorem finishStep_writes {s t : State} (h : finishStep s = .next t) : WritesAtMostNextLine s t := by
  rcases finishStep_cases s with ⟨_, e⟩ | ⟨_, e⟩ <;> rw [e] at h
  · cases h; exact .inl ⟨rfl, rfl⟩
  · exact completeLine_writes h

/-- An action neither emits nor writes `OUT`, whether it goes on to the end of the step or ends the launch. -/
def ActionKeepsOut (action : State → ActionEnd) : Prop :=
  ∀ u v, action u = .goesOn v ∨ action u = .ended v → KeepsOut u v

theorem pass_keepsOut : ActionKeepsOut passAction := by
  intro u v h
  unfold passAction at h
  rcases h with h | h <;> cases h
  exact ⟨rfl, rfl, rfl, rfl⟩

theorem vertical_keepsOut (k : Int) : ActionKeepsOut (verticalAction k) := by
  intro u v h
  unfold verticalAction at h
  split at h <;> rcases h with h | h <;> cases h <;> exact ⟨rfl, rfl, rfl, rfl⟩

theorem horizontal_keepsOut : ActionKeepsOut horizontalAction := by
  intro u v h
  rcases horizontalAction_cases u with ⟨r1, r2, t, e, k⟩ | ⟨c, t, e, k⟩ <;> rw [e] at h <;>
    rcases h with h | h <;> cases h
  · exact (keepsOut_onlyRead k).trans ⟨rfl, rfl, rfl, rfl⟩
  · exact (keepsOut_onlyRead k).trans (keepsOut_endLaunch ..)

/-- A mode code writes only where its step completes the line (R171 step 6). -/
theorem execMode_writes {i : Instr} {action : State → ActionEnd} (ha : ActionKeepsOut action) {s t : State}
    (h : execMode i action s = .next t) : WritesAtMostNextLine s t := by
  by_cases hr : s.ready
  · have hread : KeepsOut s (consumeMode i s) := ⟨rfl, rfl, rfl, rfl⟩
    rcases execMode_ready hr i action with ⟨_, e⟩ | ⟨_, ⟨u, hu, e⟩ | ⟨u, hu, e⟩⟩ <;> rw [e] at h
    · cases h; exact (keepsOut_endLaunch ..).writes
    · cases h; exact (hread.trans (ha _ _ (.inr hu))).writes
    · exact (hread.trans (ha _ _ (.inl hu))).trans_writes (finishStep_writes h)
  · rw [execMode_outOfContext hr] at h; cases h

theorem exec_modeCode_writes {i : Instr} (hi : i.wellFormed .mode = true) {s t : State} (h : exec i s = .next t) :
    WritesAtMostNextLine s t := by
  rcases mode_cases hi with rfl | rfl | rfl | ⟨k, hk⟩
  · exact execMode_writes pass_keepsOut h
  · exact execMode_writes horizontal_keepsOut h
  · rw [exec_ext, execUnrecognized] at h
    split at h <;> cases h
    exact (keepsOut_endLaunch ..).writes
  · rw [exec_vertical hk] at h
    exact execMode_writes (vertical_keepsOut k) h

theorem codingStep_writes {s t : State} (h : codingStep s = .next t) : WritesAtMostNextLine s t := by
  rcases codingStep_cases s with ⟨_, e⟩ | ⟨_, _, e⟩ | ⟨_, _, _, e⟩ | ⟨i, _, _, _, hi, e⟩ <;> rw [e] at h
  · cases h; exact (keepsOut_endLaunch ..).writes
  · cases h; exact (keepsOut_endLaunch ..).writes
  · cases h; exact (keepsOut_endLaunch ..).writes
  · exact exec_modeCode_writes hi h

/-- A run code writes only where it ends the second run and that completes the line (R186). -/
theorem addRun_writes {terminates : Bool} {pixels : Nat} {s t : State} (h : addRun terminates pixels s = .next t) :
    WritesAtMostNextLine s t := by
  unfold addRun at h
  split at h
  case h_1 => cases h; exact .inl ⟨rfl, rfl⟩
  case h_2 r1 total _ =>
    split at h
    · have hfill : KeepsOut s (horizontalFill r1 (total + pixels) s) := ⟨rfl, rfl, rfl, rfl⟩
      exact hfill.trans_writes (finishStep_writes h)
    · cases h; exact .inl ⟨rfl, rfl⟩
  case h_3 => cases h
  case h_4 => cases h

theorem execRunCode_writes {i : Instr} {s t : State} (h : execRunCode i s = .next t) : WritesAtMostNextLine s t := by
  by_cases hr : s.readsRunCode i = true
  · rcases execRunCode_reads hr with ⟨_, e⟩ | ⟨_, e⟩ <;> rw [e] at h
    · cases h; exact (keepsOut_endLaunch ..).writes
    · exact KeepsOut.trans_writes (keepsOut_onlyRead (onlyRead_consume _ s)) (addRun_writes h)
  · rw [execRunCode, if_neg hr] at h; cases h

theorem runCodeStep_writes {c : Colour} {s t : State} (h : runCodeStep c s = .next t) : WritesAtMostNextLine s t := by
  rcases runCodeStep_cases c s with ⟨_, e⟩ | ⟨_, _, e⟩ | ⟨i, _, _, _, e⟩ <;> rw [e] at h
  · cases h; exact (keepsOut_endLaunch ..).writes
  · cases h; exact (keepsOut_endLaunch ..).writes
  · exact execRunCode_writes h

theorem endOfBlockStep_keepsOut {s t : State} (h : endOfBlockStep s = .next t) : KeepsOut s t := by
  unfold endOfBlockStep at h
  split at h
  · rw [exec_eob, execEob] at h
    split at h <;> cases h
    exact keepsOut_endLaunch ..
  · cases h; exact ⟨rfl, rfl, rfl, rfl⟩

theorem launchStep_writes {s t : State} (h : launchStep s = .next t) : WritesAtMostNextLine s t := by
  unfold launchStep at h
  split at h
  · exact codingStep_writes h
  · exact runCodeStep_writes h
  · exact runCodeStep_writes h
  · exact (endOfBlockStep_keepsOut h).writes

@[simp] theorem applyStart_out (s : State) : (applyStart s).out = s.out := by
  rcases applyStart_cases s with ⟨_, e⟩ | ⟨_, e⟩ <;> rw [e] <;> rfl

/-- Settles O52, by the rows of the transition: reset, START and rest keep `OUT`, and in a launch only the completion of
the line emits, its pixels exactly as many as the width. -/
theorem outputIsWriteOnce : Obligations.OutputIsWriteOnce := by
  intro s t h
  rcases step_cases s with ⟨hr, e⟩ | ⟨_, hp, _, e⟩ | ⟨_, hp, _, e⟩ | ⟨hr, hp, e⟩ <;> rw [e] at h
  · cases h; exact ⟨fun _ => rfl, fun _ hr' => by simp [hr] at hr'⟩
  · cases h; exact ⟨fun _ => applyStart_out s, fun hp' => by simp [hp] at hp'⟩
  · cases h; exact ⟨fun _ => rfl, fun hp' => by simp [hp] at hp'⟩
  · have hdrop : KeepsOut s s.dropStart := ⟨rfl, rfl, rfl, rfl⟩
    exact ⟨fun hout => by simp [hp, hr] at hout, fun _ _ => hdrop.trans_writes (launchStep_writes h)⟩

/-! SUPPORT. The host's moves (R63, R266). -/

theorem hostMove_setSource_coding {s : State} (h : s.phase.coding = true) (src : List Byte) :
    hostMove (.setSource src) s = .refused .sourceWriteWhileBusy :=
  if_pos h

theorem hostMove_setSource_not_coding {s : State} (h : s.phase.coding = false) (src : List Byte) :
    hostMove (.setSource src) s = .next { s with pins := { s.pins with src := src } } :=
  if_neg (by simp [h])

/-- A host move writes the inputs and nothing else of the state. -/
theorem hostMove_changes_pins {m : HostMove} {s t : State} (h : hostMove m s = .next t) :
    t = { s with pins := t.pins } := by
  cases m with
  | setSource src =>
    cases hc : s.phase.coding with
    | true => rw [hostMove_setSource_coding hc] at h; cases h
    | false => rw [hostMove_setSource_not_coding hc] at h; cases h; rfl
  | setWidth | setInvert | pulseStart | assertReset => cases h; rfl

/-- Settles O55: only the write of `SRC` looks at the phase. -/
theorem hostMovesChangeOnlyPins : Obligations.HostMovesChangeOnlyPins :=
  ⟨fun _ _ _ => hostMove_changes_pins, fun _ src h => hostMove_setSource_coding h src,
    fun _ src h => hostMove_setSource_not_coding h src, fun _ => rfl, fun _ => rfl, fun _ _ => rfl, fun _ _ => rfl⟩

end Sys2Proof.Machine

namespace Sys2Proof

/-! SUPPORT. A code against a comparison window (R82, R86): bit by bit, and as the interval of the windows that
begin with it. -/

/-- The code is no longer than a window of `k` bits and its string fits its length (R81). -/
abbrev Code.fits (k : Nat) (c : Code) : Prop := c.len ≤ k ∧ c.bits < 2 ^ c.len

theorem Code.toBits_length (c : Code) : c.toBits.length = c.len := by simp [Code.toBits]

theorem Code.toBits_getD (c : Code) {j : Nat} (hj : j < c.len) :
    c.toBits.getD j false = c.bits.testBit (c.len - 1 - j) := by
  simp [Code.toBits, List.getD, hj]

/-- The mask has its ones at the code's bits. -/
theorem Code.mask_getMsbD {k : Nat} {c : Code} (h : c.len ≤ k) {j : Nat} (hj : j < k) :
    (c.mask k).getMsbD j = decide (j < c.len) := by
  have hk : k - 1 - j < k := by omega
  rw [Code.mask, BitVec.getMsbD_eq_getLsbD, BitVec.getLsbD_ofNat, Nat.testBit_shiftLeft, Nat.testBit_two_pow_sub_one,
    decide_eq_true hj, decide_eq_true hk, Bool.true_and, Bool.true_and, ← Bool.decide_and, decide_eq_decide]
  omega

/-- The value has the code's bits at its head and zeros after them. -/
theorem Code.value_getMsbD {k : Nat} {c : Code} (h : c.fits k) {j : Nat} (hj : j < k) :
    (c.value k).getMsbD j = (decide (j < c.len) && c.toBits.getD j false) := by
  obtain ⟨hlen, -⟩ := h
  have hk : k - 1 - j < k := by omega
  rw [Code.value, BitVec.getMsbD_eq_getLsbD, BitVec.getLsbD_ofNat, Nat.testBit_shiftLeft, decide_eq_true hj,
    decide_eq_true hk, Bool.true_and, Bool.true_and]
  rcases Nat.lt_or_ge j c.len with hl | hl
  · have hge : k - 1 - j ≥ k - c.len := by omega
    have hbit : k - 1 - j - (k - c.len) = c.len - 1 - j := by omega
    rw [decide_eq_true hge, decide_eq_true hl, c.toBits_getD hl, hbit]
  · have hge : ¬k - 1 - j ≥ k - c.len := by omega
    rw [decide_eq_false hge, decide_eq_false hl.not_gt, Bool.false_and, Bool.false_and]

/-- An entry matches exactly the windows that begin with its bits. -/
theorem Code.matchesIn_iff_bits {k : Nat} {c : Code} (h : c.fits k) (w : BitVec k) :
    c.matchesIn k w = true ↔ ∀ j < c.len, w.getMsbD j = c.toBits.getD j false := by
  rw [Code.matchesIn, beq_iff_eq]
  constructor
  · intro e j hj
    have hk : j < k := hj.trans_le h.1
    have hbit := congrArg (fun v => v.getMsbD j) e
    simpa [BitVec.getMsbD_and, Code.mask_getMsbD h.1 hk, Code.value_getMsbD h hk, hj] using hbit
  · intro hbits
    refine BitVec.eq_of_getMsbD_eq fun j hk => ?_
    rw [BitVec.getMsbD_and, Code.mask_getMsbD h.1 hk, Code.value_getMsbD h hk, Bool.and_comm]
    by_cases hj : j < c.len
    · rw [hbits j hj]
    · rw [decide_eq_false hj, Bool.false_and, Bool.false_and]

/-- An entry matches exactly the windows whose top bits, read as a number, are its string. -/
theorem Code.matchesIn_iff_shiftRight {k : Nat} {c : Code} (h : c.fits k) (w : BitVec k) :
    c.matchesIn k w = true ↔ w.toNat >>> (k - c.len) = c.bits := by
  obtain ⟨hlen, hbits⟩ := h
  have hbit : ∀ j < c.len, w.getMsbD j = (w.toNat >>> (k - c.len)).testBit (c.len - 1 - j) := by
    intro j hj
    have hk : j < k := by omega
    have hi : k - 1 - j = k - c.len + (c.len - 1 - j) := by omega
    rw [BitVec.getMsbD_eq_getLsbD, decide_eq_true hk, Bool.true_and, Nat.testBit_shiftRight, ← hi,
      BitVec.testBit_toNat]
  rw [Code.matchesIn_iff_bits ⟨hlen, hbits⟩]
  constructor
  · intro e
    refine Nat.eq_of_testBit_eq fun i => ?_
    rcases Nat.lt_or_ge i c.len with hi | hi
    · have hj : c.len - 1 - i < c.len := by omega
      have hsub : c.len - 1 - (c.len - 1 - i) = i := by omega
      have := (hbit _ hj).symm.trans ((e _ hj).trans (c.toBits_getD hj))
      rwa [hsub] at this
    · have hk : k ≤ k - c.len + i := by omega
      rw [Nat.testBit_shiftRight, BitVec.testBit_toNat, BitVec.getLsbD_of_ge _ _ hk,
        Nat.testBit_lt_two_pow (hbits.trans_le (Nat.pow_le_pow_right (by decide) hi))]
  · intro e j hj
    rw [hbit j hj, e, c.toBits_getD hj]

/-- The first window of `k` bits that begins with the code. -/
def Code.start (k : Nat) (c : Code) : Nat := c.bits * 2 ^ (k - c.len)

/-- The first window after those that begin with the code. -/
def Code.stop (k : Nat) (c : Code) : Nat := (c.bits + 1) * 2 ^ (k - c.len)

theorem Code.start_lt_stop (k : Nat) (c : Code) : c.start k < c.stop k :=
  Nat.mul_lt_mul_of_pos_right (Nat.lt_succ_self _) (Nat.two_pow_pos _)

/-- An entry matches exactly the windows of its interval. -/
theorem Code.matchesIn_iff_between {k : Nat} {c : Code} (h : c.fits k) (w : BitVec k) :
    c.matchesIn k w = true ↔ c.start k ≤ w.toNat ∧ w.toNat < c.stop k := by
  have hpos := Nat.two_pow_pos (k - c.len)
  rw [Code.matchesIn_iff_shiftRight h, Nat.shiftRight_eq_div_pow, Nat.div_eq_iff hpos, Code.start, Code.stop,
    Nat.succ_mul]
  omega

/-! SUPPORT. Each table tiles its windows: sorted by the windows their codes stand in, the entries follow each other
without a gap and without an overlap. So one entry at most matches a window (R87), and the windows that match nothing
are those outside the tiled range (R95, R96). -/

/-- The intervals of the entries run from `a` to `b`, each beginning where the one before it ends. -/
def tiles (k : Nat) : Nat → List Instr → Nat → Bool
  | a, [], b => a == b
  | a, i :: l, b => i.code.start k == a && tiles k (i.code.stop k) l b

@[simp] theorem tiles_nil (k a b : Nat) : tiles k a [] b = true ↔ a = b := beq_iff_eq

@[simp] theorem tiles_cons (k a b : Nat) (i : Instr) (l : List Instr) :
    tiles k a (i :: l) b = true ↔ i.code.start k = a ∧ tiles k (i.code.stop k) l b = true := by
  rw [tiles, Bool.and_eq_true, beq_iff_eq]

theorem tiles_bounds {k a b : Nat} {l : List Instr} (h : tiles k a l b = true) :
    a ≤ b ∧ ∀ i ∈ l, a ≤ i.code.start k ∧ i.code.stop k ≤ b := by
  induction l generalizing a with
  | nil => exact ⟨((tiles_nil k a b).mp h).le, by simp⟩
  | cons i l ih =>
    obtain ⟨rfl, htail⟩ := (tiles_cons k a b i l).mp h
    obtain ⟨hstop, hmem⟩ := ih htail
    have hi := i.code.start_lt_stop k
    refine ⟨hi.le.trans hstop, List.forall_mem_cons.mpr ⟨⟨le_rfl, hstop⟩, fun j hj => ?_⟩⟩
    exact ⟨hi.le.trans (hmem j hj).1, (hmem j hj).2⟩

/-- Every number of the tiled range lies in the interval of exactly one entry. -/
theorem tiles_existsUnique {k a b : Nat} {l : List Instr} (h : tiles k a l b = true) {x : Nat} (ha : a ≤ x)
    (hb : x < b) :
    ∃! i, i ∈ l ∧ i.code.start k ≤ x ∧ x < i.code.stop k := by
  induction l generalizing a with
  | nil => exact absurd ((tiles_nil k a b).mp h) (ha.trans_lt hb).ne
  | cons i l ih =>
    obtain ⟨rfl, htail⟩ := (tiles_cons k a b i l).mp h
    rcases Nat.lt_or_ge x (i.code.stop k) with hx | hx
    · refine ⟨i, ⟨List.mem_cons_self, ha, hx⟩, fun j ⟨hj, hjx, _⟩ => ?_⟩
      refine (List.mem_cons.mp hj).resolve_right fun hl => ?_
      exact (hjx.trans_lt hx).not_ge ((tiles_bounds htail).2 j hl).1
    · obtain ⟨j, ⟨hj, hjx⟩, huniq⟩ := ih htail hx
      refine ⟨j, ⟨List.mem_cons_of_mem i hj, hjx⟩, fun m ⟨hm, hmx⟩ => huniq m ⟨?_, hmx⟩⟩
      exact (List.mem_cons.mp hm).resolve_left fun e => (e ▸ hmx.2).not_ge hx

/-- The entries in the order of their windows. -/
def byStart (k : Nat) (l : List Instr) : List Instr := l.insertionSort fun i j => i.code.start k ≤ j.code.start k

@[simp] theorem mem_byStart {k : Nat} {l : List Instr} {i : Instr} : i ∈ byStart k l ↔ i ∈ l :=
  List.mem_insertionSort _

/-! SUPPORT. The three contexts as tables (R80, R138, R153, R197): the width of the comparison window, the entries, and
the range of the windows that match one. -/

/-- The width of the comparison window (R80). -/
def CodeContext.width : CodeContext → Nat
  | .mode => 8
  | .run _ => 16
  | .endOfBlock => 24

/-- The entries the context's decoder scans. -/
def CodeContext.table : CodeContext → List Instr
  | .mode => modeList
  | .run c => runList c
  | .endOfBlock => [.eob]

/-- The lowest window that matches an entry (R95, R96, R88). -/
def CodeContext.low : CodeContext → Nat
  | .mode => 2
  | .run _ => 0x0100
  | .endOfBlock => 0x001001

/-- The first number above the windows that match an entry; for mode and run codes every window is below it. -/
def CodeContext.high : CodeContext → Nat
  | .mode => 0x100
  | .run _ => 0x10000
  | .endOfBlock => 0x001002

/-- The comparison window at the head of the lookahead. -/
def CodeContext.head (ctx : CodeContext) (w : Acc) : BitVec ctx.width := w.extractLsb' (32 - ctx.width) ctx.width

theorem CodeContext.width_le (ctx : CodeContext) : ctx.width ≤ 32 := by cases ctx <;> simp [CodeContext.width]

theorem CodeContext.head_getMsbD (ctx : CodeContext) (w : Acc) {j : Nat} (hj : j < ctx.width) :
    (ctx.head w).getMsbD j = w.getMsbD j := by
  have hw := ctx.width_le
  have hle : 32 - ctx.width + ctx.width - j ≤ 32 := by omega
  have hidx : 32 - (32 - ctx.width + ctx.width - j) = j := by omega
  rw [CodeContext.head, BitVec.getMsbD_extractLsb', decide_eq_true hj, decide_eq_true hle, hidx, Bool.true_and,
    Bool.true_and]

theorem CodeContext.table_fits (ctx : CodeContext) : ∀ i ∈ ctx.table, i.code.fits ctx.width := by
  cases ctx with
  | mode => decide
  | run c => cases c <;> decide
  | endOfBlock => decide

theorem CodeContext.table_tiles (ctx : CodeContext) :
    tiles ctx.width ctx.low (byStart ctx.width ctx.table) ctx.high = true := by
  cases ctx with
  | mode => decide
  | run c => cases c <;> decide
  | endOfBlock => decide

theorem CodeContext.table_wellFormed (ctx : CodeContext) : ∀ i ∈ ctx.table, i.wellFormed ctx = true := by
  cases ctx with
  | mode => decide
  | run c => cases c <;> decide
  | endOfBlock => decide

theorem CodeContext.mem_table_of_wellFormed (ctx : CodeContext) (i : Instr) :
    i.wellFormed ctx = true → i ∈ ctx.table := by
  cases ctx with
  | mode => cases i <;> decide
  | run c => cases c <;> cases i <;> decide
  | endOfBlock => cases i <;> decide

/-- The context's table holds exactly the codes that are well formed in it (R80, R138). -/
theorem CodeContext.mem_table_iff (ctx : CodeContext) (i : Instr) : i ∈ ctx.table ↔ i.wellFormed ctx = true :=
  ⟨ctx.table_wellFormed i, ctx.mem_table_of_wellFormed i⟩

/-- R87: two entries of a table that match one window are the same. -/
theorem CodeContext.eq_of_matches {ctx : CodeContext} {w : BitVec ctx.width} {i j : Instr} (hi : i ∈ ctx.table)
    (hj : j ∈ ctx.table) (hiw : i.code.matchesIn ctx.width w = true) (hjw : j.code.matchesIn ctx.width w = true) :
    i = j := by
  rw [Code.matchesIn_iff_between (ctx.table_fits i hi)] at hiw
  rw [Code.matchesIn_iff_between (ctx.table_fits j hj)] at hjw
  obtain ⟨hlow, hhigh⟩ := (tiles_bounds ctx.table_tiles).2 i (mem_byStart.mpr hi)
  exact (tiles_existsUnique ctx.table_tiles (hlow.trans hiw.1) (hiw.2.trans_le hhigh)).unique
    ⟨mem_byStart.mpr hi, hiw⟩ ⟨mem_byStart.mpr hj, hjw⟩

/-- A window matches an entry of the table exactly when it is in the range the table tiles (R95, R96). -/
theorem CodeContext.exists_matches_iff (ctx : CodeContext) (w : BitVec ctx.width) :
    (∃ i ∈ ctx.table, i.code.matchesIn ctx.width w = true) ↔ ctx.low ≤ w.toNat ∧ w.toNat < ctx.high := by
  constructor
  · rintro ⟨i, hi, hm⟩
    rw [Code.matchesIn_iff_between (ctx.table_fits i hi)] at hm
    obtain ⟨hlow, hhigh⟩ := (tiles_bounds ctx.table_tiles).2 i (mem_byStart.mpr hi)
    exact ⟨hlow.trans hm.1, hm.2.trans_le hhigh⟩
  · rintro ⟨hlow, hhigh⟩
    obtain ⟨i, ⟨hi, hm⟩, -⟩ := tiles_existsUnique ctx.table_tiles hlow hhigh
    have hmem := mem_byStart.mp hi
    exact ⟨i, hmem, (Code.matchesIn_iff_between (ctx.table_fits i hmem) w).mpr hm⟩

/-! SUPPORT. The scan of a table (R86, R139, R153). -/

/-- Where one element at most satisfies the test, the scan's answer does not depend on the order. -/
theorem find?_eq_some_iff_mem {α : Type} {l : List α} {p : α → Bool}
    (huniq : ∀ a ∈ l, ∀ b ∈ l, p a = true → p b = true → a = b) {a : α} :
    l.find? p = some a ↔ a ∈ l ∧ p a = true := by
  constructor
  · exact fun h => ⟨List.mem_of_find?_eq_some h, List.find?_some h⟩
  · rintro ⟨hmem, hp⟩
    obtain ⟨b, hb⟩ := Option.isSome_iff_exists.mp (List.find?_isSome.mpr ⟨a, hmem, hp⟩)
    rw [hb, huniq a hmem b (List.mem_of_find?_eq_some hb) hp (List.find?_some hb)]

/-- The scan of any permutation of a table answers the one entry that matches. -/
theorem CodeContext.find?_perm_iff {ctx : CodeContext} {l : List Instr} (hl : l.Perm ctx.table) (w : BitVec ctx.width)
    {i : Instr} :
    l.find? (fun i => i.code.matchesIn ctx.width w) = some i ↔ i ∈ ctx.table ∧ i.code.matchesIn ctx.width w = true := by
  rw [find?_eq_some_iff_mem fun a ha b hb => CodeContext.eq_of_matches (hl.mem_iff.mp ha) (hl.mem_iff.mp hb),
    hl.mem_iff]

/-- The order of the scan changes no result (R87). -/
theorem CodeContext.find?_perm {ctx : CodeContext} {l : List Instr} (hl : l.Perm ctx.table) (w : BitVec ctx.width) :
    l.find? (fun i => i.code.matchesIn ctx.width w) = ctx.table.find? (fun i => i.code.matchesIn ctx.width w) :=
  Option.ext fun _ => (CodeContext.find?_perm_iff hl w).trans (CodeContext.find?_perm_iff (.refl _) w).symm

/-- The end-of-block comparison is the match of EOB, whose code fills its window (R88). -/
theorem isEndOfBlock_eq_matchesIn (w : BitVec 24) : isEndOfBlock w = Instr.eob.code.matchesIn 24 w := by
  have hmask : Instr.eob.code.mask 24 = BitVec.allOnes 24 := by decide
  rw [isEndOfBlock, Code.matchesIn, hmask, BitVec.and_allOnes]

/-- In each context the decoder scans the context's table at the head of the lookahead (R80, R91). -/
theorem decodeWindow_eq_ok_iff_find? (ctx : CodeContext) (w : Acc) (i : Instr) :
    decodeWindow ctx w = .ok i ↔ ctx.table.find? (fun i => i.code.matchesIn ctx.width (ctx.head w)) = some i := by
  cases ctx with
  | mode =>
    have hscan : CodeContext.mode.table.find? (fun i => i.code.matchesIn _ (CodeContext.mode.head w)) =
        modeMatch (w.extractLsb' 24 8) := rfl
    rw [decodeWindow, hscan]
    cases modeMatch (w.extractLsb' 24 8) <;> simp
  | run c =>
    have hscan : (CodeContext.run c).table.find? (fun i => i.code.matchesIn _ ((CodeContext.run c).head w)) =
        runMatch (w.extractLsb' 16 16) c := rfl
    rw [decodeWindow, hscan]
    cases runMatch (w.extractLsb' 16 16) c <;> simp
  | endOfBlock =>
    have hscan : CodeContext.endOfBlock.table.find? (fun i => i.code.matchesIn _ (CodeContext.endOfBlock.head w)) =
        if isEndOfBlock (w.extractLsb' 8 24) then some .eob else none := by
      rw [isEndOfBlock_eq_matchesIn]; exact List.find?_singleton ..
    rw [decodeWindow, hscan]
    split <;> simp

/-- The decoder answers exactly the code of the context whose bits begin the window. -/
theorem decodeWindow_eq_ok_iff (ctx : CodeContext) (w : Acc) (i : Instr) :
    decodeWindow ctx w = .ok i ↔
      i.wellFormed ctx = true ∧ ∀ j < i.code.len, w.getMsbD j = (encode i).getD j false := by
  rw [decodeWindow_eq_ok_iff_find?, CodeContext.find?_perm_iff (.refl _), ← ctx.mem_table_iff]
  refine and_congr_right fun hi => ?_
  have hfits := ctx.table_fits i hi
  rw [Code.matchesIn_iff_bits hfits]
  exact forall₂_congr fun j hj => by rw [ctx.head_getMsbD w (hj.trans_le hfits.1), encode]

end Sys2Proof

namespace Sys2Proof.Machine

/-- Settles O10: no other entry of the code's table matches the window, so the scan stops at no other. -/
theorem decodeEncodeAgree : Obligations.DecodeEncodeAgree :=
  fun ctx i w hi hbits => (decodeWindow_eq_ok_iff ctx w i).mpr ⟨hi, hbits⟩

/-- Settles O11: the scan answers an entry of its table that matches. -/
theorem decodedCodeStandsInTheWindow : Obligations.DecodedCodeStandsInTheWindow :=
  fun ctx i w => (decodeWindow_eq_ok_iff ctx w i).mp

/-- A code at the head of a zero window decodes to itself (R141). -/
theorem decodeWindow_encodeWindow {ctx : CodeContext} {i : Instr} (h : i.wellFormed ctx = true) :
    decodeWindow ctx (encodeWindow i) = .ok i := by
  obtain ⟨hlen, hbits⟩ := ctx.table_fits i ((ctx.mem_table_iff i).mpr h)
  have hlen32 := hlen.trans ctx.width_le
  refine (decodeWindow_eq_ok_iff ctx _ i).mpr ⟨h, fun j hj => ?_⟩
  rw [encodeWindow, Code.value_getMsbD ⟨hlen32, hbits⟩ (hj.trans_le hlen32), decide_eq_true hj, Bool.true_and, encode]

/-- No code of a context begins another: the window of the longer one would decode to both. -/
theorem eq_of_encode_isPrefix {ctx : CodeContext} {i j : Instr} (hi : i.wellFormed ctx = true)
    (hj : j.wellFormed ctx = true) (h : encode i <+: encode j) : i = j := by
  have hj' := decodeWindow_encodeWindow hj
  have hbits := ((decodeWindow_eq_ok_iff ctx _ j).mp hj').2
  have hlen : i.code.len ≤ j.code.len := by simpa [encode, Code.toBits_length] using h.length_le
  have hi' : decodeWindow ctx (encodeWindow j) = .ok i := by
    refine (decodeWindow_eq_ok_iff ctx _ i).mpr ⟨hi, fun m hm => ?_⟩
    obtain ⟨rest, hrest⟩ := h
    rw [hbits m (hm.trans_le hlen), ← hrest, List.getD_append _ _ _ _ (by rwa [encode, Code.toBits_length])]
  exact Except.ok.inj (hi'.symm.trans hj')

/-- Settles O9: the tables tile their windows, so no code begins another and the scan has one entry to find. -/
theorem codesArePrefixFree : Obligations.CodesArePrefixFree :=
  ⟨fun _ _ _ => eq_of_encode_isPrefix,
    fun c _ _ hi _ hj => CodeContext.eq_of_matches (ctx := .run c) hi hj,
    fun _ _ hi _ hj => CodeContext.eq_of_matches (ctx := .mode) hi hj,
    fun c _ w hl => CodeContext.find?_perm (ctx := .run c) hl w,
    fun _ w hl => CodeContext.find?_perm (ctx := .mode) hl w⟩

/-- Either colour's table tiles the windows from 0x0100 on (R96). -/
theorem runMatch_eq_none_iff (w : BitVec 16) (c : Colour) : runMatch w c = none ↔ w < 0x0100 := by
  have hmatch := (CodeContext.run c).exists_matches_iff w
  have hlt : w.toNat < 0x10000 := w.isLt
  rw [runMatch, List.find?_eq_none, BitVec.lt_def]
  change _ ↔ w.toNat < 0x100
  constructor
  · intro hnone
    by_contra hge
    obtain ⟨i, hi, hm⟩ := hmatch.mpr ⟨not_lt.mp hge, hlt⟩
    exact hnone i hi hm
  · exact fun hlow i hi hm => hlow.not_ge (hmatch.mp ⟨i, hi, hm⟩).1

/-- Settles O8: where nothing matches, R143 checks for an empty window before the match. -/
theorem runWindowsUnmatched : Obligations.RunWindowsUnmatched := by
  refine fun c w => ⟨runMatch_eq_none_iff w c, fun v hv hw => ?_⟩
  have hnone : runMatch v.peek16.1 c = none := hv ▸ (runMatch_eq_none_iff w c).mpr hw
  rcases nextRunCode_cases c v with ⟨h0, e⟩ | ⟨hpos, _, e⟩ | ⟨i, hi, _⟩
  · rw [e, if_pos h0]
  · rw [e, if_neg hpos.ne']
  · simp [hnone] at hi

end Sys2Proof.Machine

namespace Sys2Proof.Machine

/-! SUPPORT. The packing of a bit string (R104): one byte shows its eight bits, and the bytes show the string. -/

/-- The mask that `byteOfBits` sets for bit `k` is that bit alone. -/
theorem topBit_shiftRight_getMsbD {j k : Nat} (hj : j < 8) (hk : k < 8) :
    ((0x80#8) >>> k).getMsbD j = decide (k = j) := by
  have : ∀ j < 8, ∀ k < 8, ((0x80#8) >>> k).getMsbD j = decide (k = j) := by decide
  exact this j hj k hk

/-- Setting bits one after the other leaves the set ones and those set before. -/
theorem setBits_getMsbD {bs : List Bool} {j : Nat} (hj : j < 8) {l : List Nat} (hl : ∀ k ∈ l, k < 8) (b : Byte) :
    (l.foldl (fun b k => if bs.getD k false then b ||| (0x80#8 >>> k) else b) b).getMsbD j =
      (b.getMsbD j || (decide (j ∈ l) && bs.getD j false)) := by
  induction l generalizing b with
  | nil => simp
  | cons k l ih =>
    obtain ⟨hk, hl⟩ := List.forall_mem_cons.mp hl
    rw [List.foldl_cons, ih hl]
    by_cases hkj : k = j
    · subst hkj
      cases hbit : bs.getD k false <;> simp [topBit_shiftRight_getMsbD hk hk]
    · have hjk : j ≠ k := Ne.symm hkj
      cases bs.getD k false <;> simp [topBit_shiftRight_getMsbD hj hk, hkj, hjk]

theorem byteOfBits_getMsbD (bs : List Bool) {j : Nat} (hj : j < 8) : (byteOfBits bs).getMsbD j = bs.getD j false := by
  rw [byteOfBits, setBits_getMsbD hj (by simp)]
  simp [hj]

/-- The bits of a packed byte are those packed into it, with zeros after them. -/
theorem byteBits_byteOfBits {bs : List Bool} (h : bs.length ≤ 8) :
    byteBits (byteOfBits bs) = bs ++ List.replicate (8 - bs.length) false := by
  refine List.ext_getElem (by simp; omega) fun j hj _ => ?_
  have hj8 : j < 8 := by simpa using hj
  have hbit : (byteBits (byteOfBits bs))[j] = bs.getD j false := by simp [byteBits, byteOfBits_getMsbD bs hj8]
  refine hbit.trans ?_
  rcases Nat.lt_or_ge j bs.length with hlt | hge
  · rw [List.getElem_append_left hlt, List.getD_eq_getElem _ _ hlt]
  · rw [List.getElem_append_right hge, List.getElem_replicate, List.getD_eq_default _ _ hge]

@[simp] theorem packBytes_length (n : Nat) (bs : List Bool) : (packBytes n bs).length = n := by
  induction n generalizing bs with
  | zero => rfl
  | succ n ih => rw [packBytes, List.length_cons, ih]

/-- The bits of enough packed bytes are the string, with zeros after it. -/
theorem flatMap_byteBits_packBytes {n : Nat} {bs : List Bool} (h : bs.length ≤ 8 * n) :
    (packBytes n bs).flatMap byteBits = bs ++ List.replicate (8 * n - bs.length) false := by
  induction n generalizing bs with
  | zero => simp [packBytes, List.eq_nil_of_length_eq_zero (Nat.le_zero.mp h)]
  | succ n ih =>
    have hdrop : (bs.drop 8).length ≤ 8 * n := by rw [List.length_drop]; omega
    rw [packBytes, List.flatMap_cons, byteBits_byteOfBits (List.length_take_le 8 bs), ih hdrop]
    rcases Nat.lt_or_ge bs.length 8 with hlt | hge
    · have hpad : 8 - bs.length + 8 * n = 8 * (n + 1) - bs.length := by omega
      rw [List.take_of_length_le hlt.le, List.drop_of_length_le hlt.le, List.length_nil, List.nil_append,
        List.append_assoc, List.replicate_append_replicate, Nat.sub_zero, hpad]
    · have hpad : 8 * n - (bs.length - 8) = 8 * (n + 1) - bs.length := by omega
      rw [List.length_take_of_le hge, Nat.sub_self, List.replicate_zero, List.append_nil, List.length_drop, hpad,
        ← List.append_assoc, List.take_append_drop]

theorem pack_length (bs : List Bool) : (pack bs).length = (bs.length + 7) / 8 := packBytes_length _ _

theorem flatMap_byteBits_pack (bs : List Bool) :
    (pack bs).flatMap byteBits = bs ++ List.replicate (8 * ((bs.length + 7) / 8) - bs.length) false :=
  flatMap_byteBits_packBytes (by omega)

/-- Settles O12: the bytes' bits are the string and its padding, and bit `j` of them stands in byte `j / 8`. -/
theorem packedBitsAreTheStream : Obligations.PackedBitsAreTheStream := by
  refine fun bs => ⟨pack_length bs, fun j hj => ?_, flatMap_byteBits_pack bs⟩
  have hbyte : j / 8 < (pack bs).length := by rw [pack_length]; omega
  have hmod : j % 8 < 8 := Nat.mod_lt j (by decide)
  refine ⟨(pack bs)[j / 8], List.getElem?_eq_getElem hbyte, ?_⟩
  calc (pack bs)[j / 8].getLsbD (7 - j % 8)
      = (pack bs)[j / 8].getMsbD (j % 8) := by simp [BitVec.getMsbD, hmod]
    _ = ((pack bs).flatMap byteBits).getD (8 * (j / 8) + j % 8) false :=
        (flatMap_byteBits_getD _ _ _ hmod hbyte).symm
    _ = bs.getD j false := by rw [Nat.div_add_mod, flatMap_byteBits_pack, List.getD_append _ _ _ _ hj]

/-! SUPPORT. The canonical run expansion (R101): what one choice of the loop answers, and the run the loop makes. -/

/-- The make-up codes that `largestMakeUp` chooses from, in rising order of their pixels. -/
def makeUpCodes (c : Colour) : List Instr :=
  (match c with | .white => whiteMakeUp | .black => blackMakeUp) ++ extendedMakeUp

theorem largestMakeUp_eq_find? (c : Colour) (n : Nat) :
    largestMakeUp c n = (makeUpCodes c).reverse.find? fun i => i.pixels Config.standard ≤ n := rfl

theorem makeUpCodes_descending (c : Colour) :
    (makeUpCodes c).reverse.Pairwise fun i j => j.pixels Config.standard ≤ i.pixels Config.standard := by
  cases c <;> decide

/-- R132: make-up codes are worth 64 pixels at least. -/
theorem makeUpCodes_spec (c : Colour) : ∀ i ∈ makeUpCodes c, i.isMakeUp c = true ∧ 64 ≤ i.pixels Config.standard := by
  cases c <;> decide

theorem exists_makeUpCode_64 (c : Colour) : ∃ i ∈ makeUpCodes c, i.pixels Config.standard = 64 := by
  cases c <;> decide

theorem mem_makeUpCodes_of_isMakeUp {c : Colour} {i : Instr} (h : i.isMakeUp c = true) : i ∈ makeUpCodes c := by
  have hlist : ∀ c, ∀ i ∈ runList c, i.isMakeUp c = true → i ∈ makeUpCodes c := by intro c; cases c <;> decide
  have hmem : i ∈ runList c :=
    (CodeContext.run c).mem_table_of_wellFormed i (by rw [Instr.wellFormed, h, Bool.or_true])
  exact hlist c i hmem h

/-- In a falling list the first value within a bound is the largest one within it. -/
theorem le_of_find?_descending {α : Type} {f : α → Nat} {l : List α} (h : l.Pairwise fun a b => f b ≤ f a) {n : Nat}
    {a : α} (ha : l.find? (fun a => f a ≤ n) = some a) : ∀ b ∈ l, f b ≤ n → f b ≤ f a := by
  intro b hb hbn
  obtain ⟨-, before, after, rfl, hbefore⟩ := List.find?_eq_some_iff_append.mp ha
  rcases List.mem_append.mp hb with hb | hb
  · simpa [hbn] using hbefore b hb
  · rcases List.mem_cons.mp hb with rfl | hb
    · exact le_rfl
    · exact (List.pairwise_cons.mp (List.pairwise_append.mp h).2.1).1 b hb

/-- From 64 pixels on the loop finds a make-up code, the largest of the colour that fits (R101). -/
theorem largestMakeUp_spec (c : Colour) {n : Nat} (hn : 64 ≤ n) :
    ∃ m, largestMakeUp c n = some m ∧ m.isMakeUp c = true ∧ 64 ≤ m.pixels Config.standard ∧
      m.pixels Config.standard ≤ n ∧
      ∀ i : Instr, i.isMakeUp c = true → i.pixels Config.standard ≤ n →
        i.pixels Config.standard ≤ m.pixels Config.standard := by
  obtain ⟨i, hi, h64⟩ := exists_makeUpCode_64 c
  obtain ⟨m, hm⟩ : ∃ m, largestMakeUp c n = some m :=
    Option.isSome_iff_exists.mp (List.find?_isSome.mpr ⟨i, List.mem_reverse.mpr hi, decide_eq_true (h64.trans_le hn)⟩)
  rw [largestMakeUp_eq_find?] at hm ⊢
  obtain ⟨hmake, hmin⟩ := makeUpCodes_spec c m (List.mem_reverse.mp (List.mem_of_find?_eq_some hm))
  have hle : m.pixels Config.standard ≤ n := by simpa using List.find?_some hm
  refine ⟨m, hm, hmake, hmin, hle, fun j hj => ?_⟩
  exact le_of_find?_descending (makeUpCodes_descending c) hm j
    (List.mem_reverse.mpr (mem_makeUpCodes_of_isMakeUp hj))

/-- Below 64 pixels one terminating code is the run (R131). -/
theorem terminatingCode_spec (c : Colour) {n : Nat} (hn : n < 64) :
    ∃ t, terminatingCode c n = some t ∧ t.isTerminating c = true ∧ t.pixels Config.standard = n := by
  have hall : ∀ n < 64, (terminatingCode c n).any
      (fun t => t.isTerminating c && t.pixels Config.standard == n) = true := by
    cases c <;> decide
  obtain ⟨t, ht, hspec⟩ := (Option.any_eq_true _ _).mp (hall n hn)
  exact ⟨t, ht, by simpa using hspec⟩

theorem canonicalRunFrom_of_lt (fuel : Nat) (c : Colour) {n : Nat} (hn : n < 64) :
    canonicalRunFrom fuel c n = (terminatingCode c n).toList := by
  cases fuel with
  | zero => rfl
  | succ fuel => rw [canonicalRunFrom, if_pos hn]

theorem canonicalRunFrom_of_le (fuel : Nat) {c : Colour} {n : Nat} (hn : 64 ≤ n) {m : Instr}
    (hm : largestMakeUp c n = some m) :
    canonicalRunFrom (fuel + 1) c n = m :: canonicalRunFrom fuel c (n - m.pixels Config.standard) := by
  rw [canonicalRunFrom, if_neg hn.not_gt, hm]

theorem pixelsOf_cons (cfg : Config) (i : Instr) (l : List Instr) :
    pixelsOf cfg (i :: l) = i.pixels cfg + pixelsOf cfg l := by
  simp [pixelsOf]

/-- With enough passes the loop makes a run of its colour, worth the pixels it was asked for. -/
theorem canonicalRunFrom_spec {fuel : Nat} (c : Colour) {n : Nat} (hf : n / 64 ≤ fuel) :
    runWellFormed c (canonicalRunFrom fuel c n) = true ∧
      pixelsOf Config.standard (canonicalRunFrom fuel c n) = n := by
  induction fuel generalizing n with
  | zero =>
    obtain ⟨t, ht, hterm, hpix⟩ := terminatingCode_spec c (n := n) (by omega)
    simp [canonicalRunFrom, ht, runWellFormed, hterm, pixelsOf, hpix]
  | succ fuel ih =>
    rcases Nat.lt_or_ge n 64 with hn | hn
    · rw [canonicalRunFrom_of_lt _ c hn, ← canonicalRunFrom_of_lt fuel c hn]
      exact ih (by omega)
    · obtain ⟨m, hm, hmake, hmin, hle, -⟩ := largestMakeUp_spec c hn
      obtain ⟨hwf, hpix⟩ := ih (n := n - m.pixels Config.standard) (by omega)
      rw [canonicalRunFrom_of_le fuel hn hm]
      constructor
      · simp [runWellFormed, hmake, hwf]
      · rw [pixelsOf_cons, hpix, Nat.add_sub_of_le hle]

/-- Settles O15, by induction on the passes of the loop, each of which takes 64 pixels at least. -/
theorem canonicalRunIsARun : Obligations.CanonicalRunIsARun := by
  intro c n
  obtain ⟨hwf, hpix⟩ := canonicalRunFrom_spec c (le_refl (n / 64))
  refine ⟨hwf, hpix, fun hn => ?_⟩
  obtain ⟨m, hm, hmake, -, hle, hmax⟩ := largestMakeUp_spec c hn
  obtain ⟨fuel, hfuel⟩ := Nat.exists_eq_succ_of_ne_zero (n := n / 64) (by omega)
  exact ⟨m, _, by rw [canonicalRun, hfuel, canonicalRunFrom_of_le fuel hn hm], hmake, hle, hmax⟩

end Sys2Proof.Machine

namespace Sys2Proof.Machine

/-! SUPPORT. The Bit Window's counts: what is consumed and what remains are the source (R24, R123), and no bit is
valid only where every byte was read (R119). -/

/-- The bits consumed and the bits left are all the bits of the source (R24, R123). -/
theorem Window.position_add_remaining {w : Window} (h : w.inRange) : w.position + w.remaining = 8 * w.source.length := by
  obtain ⟨-, hp, hv⟩ := h
  simp only [Window.position, Window.remaining]
  omega

/-- With no bit valid every source byte was read (R119): the refill stops at no other window with eight bits empty. -/
theorem Window.exhausted_of_valid_zero {w : Window} (h : w.wf) (h0 : w.valid = 0) : w.sourcePos = w.source.length := by
  obtain ⟨-, -, -, hfull, -⟩ := h
  exact hfull.resolve_left (by rw [Window.valid] at h0; omega)

/-- A bit is left exactly when one is valid (R119, R123). -/
theorem Window.remaining_eq_zero_iff {w : Window} (h : w.wf) : w.remaining = 0 ↔ w.valid = 0 := by
  refine ⟨fun h0 => Nat.le_zero.mp (h0 ▸ w.valid_le_remaining), fun h0 => ?_⟩
  rw [Window.remaining, h0, Window.exhausted_of_valid_zero h h0, Nat.sub_self]

theorem Window.hasRemaining_eq_decide {w : Window} (h : w.wf) : w.hasRemaining = decide (0 < w.valid) := by
  rcases Nat.eq_zero_or_pos w.valid with h0 | hpos
  · simp [Window.hasRemaining, h0, Window.exhausted_of_valid_zero h h0]
  · simp [Window.hasRemaining, hpos, hpos.ne']

/-- Settles O5: with no bit valid the source is exhausted, and the stream left has as many bits as remain. -/
theorem hasRemainingMeansValidBits : Obligations.HasRemainingMeansValidBits := by
  refine fun w h => ⟨Window.hasRemaining_eq_decide h, ?_⟩
  have hempty : w.streamBits = [] ↔ w.valid = 0 := by
    rw [← List.length_eq_zero_iff, Window.streamBits_length (Window.inRange_of_wf h), Window.remaining_eq_zero_iff h]
  rw [Window.hasRemaining_eq_decide h, Bool.eq_iff_iff, decide_eq_true_iff, Bool.not_eq_true', List.isEmpty_eq_false_iff,
    Ne, hempty, Nat.pos_iff_ne_zero]

/-- The first refill takes the first four bytes, or all there are (R113): at position 0 what was read is what is valid. -/
theorem Window.construct_counts (src : List Byte) :
    (Window.construct src).sourcePos = min 4 src.length ∧ (Window.construct src).valid = min 32 (8 * src.length) := by
  obtain ⟨he, hp, hv, hfull, -⟩ := Window.construct_wf src
  have hpos := Window.construct_position src
  rw [Window.construct_source] at hp hfull
  simp only [Window.position, Window.valid] at *
  omega

theorem Window.construct_streamBits (src : List Byte) : (Window.construct src).streamBits = src.flatMap byteBits := by
  rw [Window.streamBits, Window.construct_position, List.drop_zero, Window.sourceBits, Window.construct_source]

theorem Window.construct_hasRemaining (src : List Byte) : (Window.construct src).hasRemaining = decide (src ≠ []) := by
  rw [Window.hasRemaining_eq_decide (Window.construct_wf src), (Window.construct_counts src).2, decide_eq_decide,
    ← List.length_pos_iff]
  omega

/-- Settles O1: the refill of an unread window moves no stream position, so the counts follow from where it stops. -/
theorem constructShowsTheSource : Obligations.ConstructShowsTheSource := fun src =>
  ⟨Window.construct_wf src, Window.construct_source src, Window.construct_position src, Window.construct_streamBits src,
    (Window.construct_counts src).1, (Window.construct_counts src).2, Window.construct_hasRemaining src⟩

/-- Consuming backed bits moves the position by their number (R115, R24). -/
theorem Window.consume_position {w : Window} {n : Nat} (h : w.inRange) (hn : n ≤ w.valid) :
    (w.consume n).position = w.position + n := by
  obtain ⟨hrange, hrem⟩ := Window.consume_inRange h hn
  have hbefore := Window.position_add_remaining h
  have hafter := Window.position_add_remaining hrange
  rw [Window.consume_source] at hafter
  omega

/-- Consuming backed bits drops them from the stream (R115, R66). -/
theorem Window.consume_streamBits {w : Window} {n : Nat} (h : w.inRange) (hn : n ≤ w.valid) :
    (w.consume n).streamBits = w.streamBits.drop n := by
  rw [Window.streamBits, Window.streamBits, List.drop_drop, Window.consume_position h hn, Window.sourceBits,
    Window.sourceBits, Window.consume_source]

/-- Settles O2: what `Consume` does to the counts, and so to the stream from the position on. -/
theorem consumeAdvancesTheStream : Obligations.ConsumeAdvancesTheStream := by
  intro w n h _ hn
  have hrange := Window.inRange_of_wf h
  exact ⟨Window.consume_wf h hn, Window.consume_source n w, Window.consume_position hrange hn,
    Window.consume_streamBits hrange hn, (Window.consume_inRange hrange hn).2⟩

/-- No code is longer than the end-of-block pattern (R81, R88). -/
theorem code_len_le (i : Instr) : i.code.len ≤ 24 := by cases i <;> decide

/-- Settles O3: a refill that leaves a byte unread stopped because fewer than eight bits were empty. -/
theorem unreadSourceBacksEveryCode : Obligations.UnreadSourceBacksEveryCode := by
  intro w hunread
  have hempty : w.refill.emptyBits < 8 := w.refill_done.resolve_right (by rw [← w.refill_source]; omega)
  have hvalid : 25 ≤ w.refill.valid := by rw [Window.valid]; omega
  exact ⟨hvalid, fun i => (code_len_le i).trans (by omega)⟩

/-! SUPPORT. The two formulations of the refill (R120): over zeros the mask clears nothing, and a byte put in right below
the valid bits leaves zeros below it. -/

/-- The bits below the valid ones are zero: the part of R23 that the mask turns on, with the range of the empty bits. -/
abbrev Window.zeroBelowValid (w : Window) : Prop :=
  w.emptyBits ≤ 32 ∧ ∀ j < 32, w.valid ≤ j → w.buffer.getMsbD j = false

/-- Where the target bits are zero, clearing them first changes nothing (R120). -/
theorem insertByte_eq_or {buffer : Acc} {sh : Nat} (b : Byte)
    (h : ∀ i < 32, sh ≤ i → i < sh + 8 → buffer.getLsbD i = false) :
    insertByte buffer sh b = buffer ||| (b.setWidth 32 <<< sh) := by
  have hmask : buffer &&& ~~~((0xFF#32) <<< sh) = buffer := by
    refine BitVec.eq_of_getLsbD_eq fun i hi => ?_
    rw [BitVec.getLsbD_and, BitVec.getLsbD_not, BitVec.getLsbD_shiftLeft, ones8_getLsbD]
    by_cases htarget : sh ≤ i ∧ i < sh + 8
    · rw [h i hi htarget.1 htarget.2, Bool.false_and]
    · have hout : i < sh ∨ ¬ i - sh < 8 := by omega
      rcases hout with hout | hout <;> simp [hi, hout]
  rw [insertByte, hmask]

/-- In a window with zeros below its valid bits the next byte is put in over zeros. -/
theorem Window.insertByte_eq_or {w : Window} (h : w.zeroBelowValid) (h8 : 8 ≤ w.emptyBits) (b : Byte) :
    insertByte w.buffer (w.emptyBits - 8) b = w.buffer ||| (b.setWidth 32 <<< (w.emptyBits - 8)) := by
  obtain ⟨he, hzero⟩ := h
  refine Machine.insertByte_eq_or b fun i hi _ hlt => ?_
  have hbit := hzero (31 - i) (by omega) (by rw [Window.valid]; omega)
  rw [BitVec.getMsbD_eq_getLsbD] at hbit
  have hidx : 32 - 1 - (31 - i) = i := by omega
  simpa [hidx, show 31 - i < 32 by omega] using hbit

/-- A pass of the refill keeps zeros below the valid bits. -/
theorem Window.zeroBelowValid_pass {w : Window} (h : w.zeroBelowValid) (h8 : 8 ≤ w.emptyBits) (b : Byte) :
    Window.zeroBelowValid { w with buffer := insertByte w.buffer (w.emptyBits - 8) b
                                   emptyBits := w.emptyBits - 8
                                   sourcePos := w.sourcePos + 1 } := by
  obtain ⟨he, hzero⟩ := h
  simp only [Window.zeroBelowValid, Window.valid] at *
  refine ⟨by omega, fun j hj hv => ?_⟩
  rw [insertByte_getMsbD _ _ _ _ h8 he hj, if_neg (by omega), hzero j hj (by omega)]

/-- One pass of the unmasked refill loop, or its end. -/
theorem Window.refillUnmaskedFrom_succ (n : Nat) (w : Window) :
    w.refillUnmaskedFrom (n + 1) =
      if h : 8 ≤ w.emptyBits ∧ w.sourcePos < w.source.length then
        Window.refillUnmaskedFrom n
          { w with buffer := w.buffer ||| ((w.source[w.sourcePos]'h.2).setWidth 32 <<< (w.emptyBits - 8))
                   emptyBits := w.emptyBits - 8
                   sourcePos := w.sourcePos + 1 }
      else w := by
  rw [Window.refillUnmaskedFrom]
  by_cases h8 : 8 ≤ w.emptyBits
  · by_cases hs : w.sourcePos < w.source.length <;> simp [h8, hs]
  · simp [h8]

/-- The two loops agree pass by pass (R120). -/
theorem Window.refillFrom_eq_refillUnmaskedFrom (n : Nat) {w : Window} (h : w.zeroBelowValid) :
    w.refillFrom n = w.refillUnmaskedFrom n := by
  induction n generalizing w with
  | zero => rfl
  | succ n ih =>
    rw [Window.refillFrom_succ, Window.refillUnmaskedFrom_succ]
    split
    · next hpass =>
      obtain ⟨h8, -⟩ := hpass
      rw [ih (Window.zeroBelowValid_pass h h8 _), Window.insertByte_eq_or h h8]
    · rfl

/-- Settles O6: each pass puts its byte in over zeros and leaves zeros below it. -/
theorem refillMaskIsImmaterial : Obligations.RefillMaskIsImmaterial :=
  fun w he hzero => Window.refillFrom_eq_refillUnmaskedFrom (w.emptyBits / 8) ⟨he, hzero⟩

end Sys2Proof.Machine

namespace Sys2Proof

/-- A code matches its own value in every window it fits (R82, R86). -/
theorem Code.matchesIn_value {k : Nat} {c : Code} (h : c.fits k) : c.matchesIn k (c.value k) = true := by
  refine (Code.matchesIn_iff_bits h _).mpr fun j hj => ?_
  rw [Code.value_getMsbD h (hj.trans_le h.1), decide_eq_true hj, Bool.true_and]

end Sys2Proof

namespace Sys2Proof.Machine

/-! SUPPORT. One code of the run being read (R143): whether it is backed, and what it adds to its run. -/

/-- The end of a launch as the statements write it: PARTIAL tells whether a line had begun (R231, R232, R236). -/
theorem endLaunch_eq_endedIn (error : Bool) (cause : Cause) (s : State) :
    endLaunch error cause s = s.endedIn error cause s.phase s.status.consumed := by
  have hpartial : partialAt s.phase = decide (s.phase = .within) := by cases s.phase <;> rfl
  rw [endLaunch, endStatus, hpartial, State.endedIn]

/-- A run code that the valid bits back is consumed and added to its run (R143). -/
theorem exec_runCode_of_backed {s : State} {i : Instr} {c : Colour} (hp : s.phase.coding = true)
    (hc : s.runColour? = some c) (hi : i.wellFormed (.run c) = true) (hlen : i.code.len ≤ s.win.valid) :
    exec i s = addRun i.terminates (i.pixels s.cfg) (s.consume i.code.len) := by
  rw [exec_runCode hi]
  rcases execRunCode_reads (readsRunCode_of hp hc hi) with ⟨hshort, _⟩ | ⟨_, e⟩
  · exact absurd hlen hshort.not_ge
  · exact e

/-- A run code longer than the valid bits ends the launch where it stands (R143). -/
theorem exec_runCode_of_not_backed {s : State} {i : Instr} {c : Colour} (hp : s.phase.coding = true)
    (hc : s.runColour? = some c) (hi : i.wellFormed (.run c) = true) (hshort : s.win.valid < i.code.len) :
    exec i s = .next (endLaunch true .unexpectedEnd s) := by
  rw [exec_runCode hi]
  rcases execRunCode_reads (readsRunCode_of hp hc hi) with ⟨_, e⟩ | ⟨hlen, _⟩
  · exact e
  · exact absurd hlen hshort.not_ge

theorem State.runColour?_of_firstRun {s : State} {total : Nat} (h : s.reading = .firstRun total) :
    s.runColour? = some s.color := by
  simp [State.runColour?, h]

theorem State.runColour?_of_secondRun {s : State} {r1 total : Nat} (h : s.reading = .secondRun r1 total) :
    s.runColour? = some s.color.opp := by
  simp [State.runColour?, h]

theorem addRun_makeUp_firstRun {s : State} {total : Nat} (h : s.reading = .firstRun total) (pixels : Nat) :
    addRun false pixels s = .next { s with reading := .firstRun (total + pixels) } := by
  simp [addRun, h]

theorem addRun_makeUp_secondRun {s : State} {r1 total : Nat} (h : s.reading = .secondRun r1 total) (pixels : Nat) :
    addRun false pixels s = .next { s with reading := .secondRun r1 (total + pixels) } := by
  simp [addRun, h]

theorem addRun_terminating_firstRun {s : State} {total : Nat} (h : s.reading = .firstRun total) (pixels : Nat) :
    addRun true pixels s = .next { s with reading := .secondRun (total + pixels) 0 } := by
  simp [addRun, h]

theorem addRun_terminating_secondRun {s : State} {r1 total : Nat} (h : s.reading = .secondRun r1 total)
    (pixels : Nat) : addRun true pixels s = finishStep (horizontalFill r1 (total + pixels) s) := by
  simp [addRun, h]

/-- R131: every code of either colour's terminating table ends its run. -/
theorem terminates_of_mem_terminating : ∀ i ∈ whiteTerminating ++ blackTerminating, i.terminates = true :=
  List.forall_mem_append.mpr ⟨by decide, by decide⟩

/-- R132: no make-up code ends a run. -/
theorem terminates_of_mem_makeUp :
    ∀ i ∈ whiteMakeUp ++ blackMakeUp ++ extendedMakeUp, i.terminates = false := by
  decide

/-! SUPPORT. What HORIZONTAL leaves (R186). -/

theorem colourAfterHorizontal_eq (cfg : Config) (c : Colour) :
    colourAfterHorizontal cfg c = if cfg.hColor = .keep then c else c.opp := by
  unfold colourAfterHorizontal
  cases cfg.hColor <;> rfl

/-- Two runs that end inside the line are written one after the other, and no other pixel is (R181, R186). -/
theorem horizontalFill_cur_getElem? {r1 r2 : Nat} {s : State} (h : s.a0 + r1 + r2 ≤ s.width) (x : Nat) :
    (horizontalFill r1 r2 s).cur[x]? =
      if s.a0 ≤ x ∧ x < s.a0 + r1 then (s.cur[x]?).map (fun _ => some s.color)
      else if s.a0 + r1 ≤ x ∧ x < s.a0 + r1 + r2 then (s.cur[x]?).map (fun _ => some s.color.opp)
      else s.cur[x]? := by
  have hfirst : min (s.a0 + r1) s.width = s.a0 + r1 := by omega
  have hsecond : min (s.a0 + r1 + r2) s.width = s.a0 + r1 + r2 := by omega
  rw [horizontalFill_cur, hfirst, hsecond, fillFrom_getElem?, fillFrom_getElem?, Nat.zero_add]
  by_cases hx : s.a0 ≤ x ∧ x < s.a0 + r1
  · have hx' : ¬(s.a0 + r1 ≤ x ∧ x < s.a0 + r1 + r2) := by omega
    rw [if_neg hx', if_pos hx, if_pos hx]
  · rw [if_neg hx, if_neg hx]

/-! The run codes. -/

/-- Settles O35: the code ends the second run, so the two fills of HORIZONTAL are done and the position is inside the
line. -/
theorem terminatingCodeEndsTheSecondRun : Obligations.TerminatingCodeEndsTheSecondRun := by
  intro s i r1 total hmem hp hr hi hlen hinside
  have hexec : exec i s = finishStep (horizontalFill r1 (total + i.pixels s.cfg) (s.consume i.code.len)) := by
    rw [exec_runCode_of_backed hp (State.runColour?_of_secondRun hr) hi hlen, terminates_of_mem_terminating i hmem,
      addRun_terminating_secondRun (s := s.consume i.code.len) hr]
  rcases finishStep_cases (horizontalFill r1 (total + i.pixels s.cfg) (s.consume i.code.len)) with
    ⟨_, e⟩ | ⟨hpast, _⟩
  · refine ⟨_, hexec.trans e, ?_, horizontalFill_cur_getElem? (s := s.consume i.code.len) hinside.le⟩
    rw [← colourAfterHorizontal_eq]
    rfl
  · exact absurd hinside hpast.not_gt

/-- Settles O13: a code matches its own window, and no other entry of its table does. -/
theorem isolatedRunCodesDecode : Obligations.IsolatedRunCodesDecode :=
  ⟨rfl, fun c i hi => (CodeContext.find?_perm_iff (ctx := .run c) (.refl _) _).mpr
    ⟨hi, Code.matchesIn_value ((CodeContext.run c).table_fits i hi)⟩⟩

/-- Settles O14, by computing the five tables entry by entry: of the build only the offset of the extended codes is
read, and it stands on both sides. -/
theorem runCodePixels : Obligations.RunCodePixels :=
  fun _ => ⟨rfl, rfl, rfl, rfl, rfl⟩

/-- Settles O33, for each of the two runs the code may be read in. -/
theorem makeUpCodeExtendsItsRun : Obligations.MakeUpCodeExtendsItsRun := by
  intro s i hmem hp hlen
  have hterm := terminates_of_mem_makeUp i hmem
  constructor
  · intro total hr hi
    rw [exec_runCode_of_backed hp (State.runColour?_of_firstRun hr) hi hlen, hterm,
      addRun_makeUp_firstRun (s := s.consume i.code.len) hr]
    rfl
  · intro r1 total hr hi
    rw [exec_runCode_of_backed hp (State.runColour?_of_secondRun hr) hi hlen, hterm,
      addRun_makeUp_secondRun (s := s.consume i.code.len) hr]
    rfl

/-- Settles O34: the code ends the first run with its total, and the second begins at 0. -/
theorem terminatingCodeEndsTheFirstRun : Obligations.TerminatingCodeEndsTheFirstRun := by
  intro s i total hmem hp hr hi hlen
  rw [exec_runCode_of_backed hp (State.runColour?_of_firstRun hr) hi hlen, terminates_of_mem_terminating i hmem,
    addRun_terminating_firstRun (s := s.consume i.code.len) hr]
  rfl

/-- Settles O36: the check of R143 comes before the code is consumed. -/
theorem runCodeNotBacked : Obligations.RunCodeNotBacked := by
  intro s i c hp hc hi hshort
  rw [exec_runCode_of_not_backed hp hc hi hshort, endLaunch_eq_endedIn]

end Sys2Proof.Machine

namespace Sys2Proof

/-! SUPPORT. The mode lookup by the ranges of its windows (R151, R153, R95). -/

/-- The lookup answers an entry exactly on the windows of the entry's interval. -/
theorem modeMatch_eq_some_iff (w : BitVec 8) (i : Instr) :
    modeMatch w = some i ↔ i ∈ modeList ∧ i.code.start 8 ≤ w.toNat ∧ w.toNat < i.code.stop 8 :=
  (CodeContext.find?_perm_iff (ctx := .mode) (.refl _) w).trans
    (and_congr_right fun hi => Code.matchesIn_iff_between (CodeContext.mode.table_fits i hi) w)

/-- An entry whose interval ends at a window is answered from its first window up to that one. -/
theorem modeMatch_of_range {w lo hi : BitVec 8} {i : Instr}
    (h : i ∈ modeList ∧ i.code.start 8 = lo.toNat ∧ i.code.stop 8 = hi.toNat) (hlo : ¬w < lo) (hhi : w < hi) :
    modeMatch w = some i := by
  obtain ⟨hmem, hstart, hstop⟩ := h
  exact (modeMatch_eq_some_iff w i).mpr ⟨hmem, hstart ▸ BitVec.not_lt.mp hlo, hstop ▸ hhi⟩

/-- The mode table tiles the windows from 0x02 on (R95). -/
theorem modeMatch_eq_none_iff (w : BitVec 8) : modeMatch w = none ↔ w < 0x02 := by
  have hmatch := CodeContext.mode.exists_matches_iff w
  have hnone : modeMatch w = none ↔ ¬∃ i ∈ modeList, i.code.matchesIn 8 w = true := by
    rw [modeMatch, List.find?_eq_none]
    push Not
    rfl
  rw [hnone, BitVec.lt_def]
  exact (not_congr (hmatch.trans (and_iff_left w.isLt))).trans not_le

/-- A mode lookahead whose head matches nothing is refused. -/
theorem decodeWindow_mode_of_lt {w : Acc} (h : w.extractLsb' 24 8 < 0x02) :
    decodeWindow .mode w = .error .noModeCode := by
  rw [decodeWindow, (modeMatch_eq_none_iff _).mpr h]

end Sys2Proof

namespace Sys2Proof.Machine

/-- A run lookahead whose head matches nothing is refused (R96). -/
theorem decodeWindow_run_of_lt (c : Colour) {w : Acc} (h : w.extractLsb' 16 16 < 0x0100) :
    decodeWindow (.run c) w = .error .noRunCode := by
  rw [decodeWindow, (runMatch_eq_none_iff _ c).mpr h]

/-- Settles O7: a window below 0x02 matches nothing, and each range above is the interval of its code. -/
theorem modeWindowMap : Obligations.ModeWindowMap := by
  intro w
  split_ifs with h2 h4 h6 h8 hC h10 h20 h40 h60 h80
  · exact (modeMatch_eq_none_iff w).mpr h2
  · exact modeMatch_of_range (by decide) h2 h4
  · exact modeMatch_of_range (by decide) h4 h6
  · exact modeMatch_of_range (by decide) h6 h8
  · exact modeMatch_of_range (by decide) h8 hC
  · exact modeMatch_of_range (by decide) hC h10
  · exact modeMatch_of_range (by decide) h10 h20
  · exact modeMatch_of_range (by decide) h20 h40
  · exact modeMatch_of_range (by decide) h40 h60
  · exact modeMatch_of_range (by decide) h60 h80
  · exact (modeMatch_eq_some_iff w .v0).mpr ⟨by decide, BitVec.not_lt.mp h80, w.isLt⟩

/-- Bytes whose first bits are those of a code of the context decode to it, whatever bits follow (R91). -/
theorem decode_of_bits {ctx : CodeContext} {i : Instr} {bs : List Byte}
    (h : i.wellFormed ctx = true ∧ ∀ j < i.code.len, (windowOfBytes bs).getMsbD j = (encode i).getD j false) :
    decode ctx bs = .ok i :=
  (decodeWindow_eq_ok_iff ctx _ i).mpr h

/-- Settles O16: each word begins with the bits of its code, and the three rejected words match nothing. -/
theorem specWordsDecode : Obligations.SpecWordsDecode := by
  refine ⟨decode_of_bits ?_, decode_of_bits ?_, decode_of_bits ?_,
    decode_of_bits ?_, decode_of_bits ?_, decode_of_bits ?_,
    decodeWindow_mode_of_lt ?_,
    decode_of_bits ?_, decode_of_bits ?_,
    decode_of_bits ?_, decode_of_bits ?_,
    decode_of_bits ?_, decode_of_bits ?_,
    decodeWindow_run_of_lt .black ?_,
    decode_of_bits ?_, rfl⟩ <;> decide

/-- EXT at the top of a coding step ends the launch with a Stop where it stands (R155, R194). -/
theorem exec_ext_of_ready {s : State} (h : s.ready) : exec .ext s = .next (endLaunch false .unrecognizedMode s) := by
  rw [exec_ext, execUnrecognized, if_pos h, raiseStop_eq]

/-- Settles O31: EXT reads nothing before it ends the launch. -/
theorem extensionCodeStops : Obligations.ExtensionCodeStops := by
  intro s hready
  rw [exec_ext_of_ready hready, endLaunch_eq_endedIn]

end Sys2Proof.Machine

namespace Sys2Proof.Machine

/-! SUPPORT. The codes at the head of the stream (R66, R91, R143): what a well-formed window shows of the stream decides
which code is read, and whether valid bits back it. -/

theorem encode_length (i : Instr) : (encode i).length = i.code.len := Code.toBits_length _

theorem Window.buffer_getMsbD {w : Window} (h : w.wf) {j : Nat} (hj : j < 25) :
    w.buffer.getMsbD j = w.streamBits.getD j false :=
  Window.peek32_getMsbD h hj

theorem Window.valid_le_streamBits_length {w : Window} (h : w.wf) : w.valid ≤ w.streamBits.length :=
  (Window.streamBits_length (Window.inRange_of_wf h)).symm ▸ w.valid_le_remaining

/-- Up to 25 stream bits are all valid if they are there at all (R121). -/
theorem Window.le_valid_of_le_length {w : Window} (h : w.wf) {n : Nat} (hn : n ≤ 25) (hl : n ≤ w.streamBits.length) :
    n ≤ w.valid := by
  rw [Window.streamBits_length (Window.inRange_of_wf h), Window.remaining] at hl
  obtain ⟨-, -, -, hfull, -⟩ := h
  rw [Window.valid] at hl ⊢
  rcases hfull with he | he <;> omega

theorem Window.streamBits_eq_nil_iff {w : Window} (h : w.wf) : w.streamBits = [] ↔ w.valid = 0 := by
  rw [← List.length_eq_zero_iff, Window.streamBits_length (Window.inRange_of_wf h), Window.remaining_eq_zero_iff h]

/-- A code at the head of the stream is backed by valid bits. -/
theorem Window.code_len_le_valid {w : Window} (h : w.wf) {i : Instr} {rest : List Bool}
    (hs : w.streamBits = encode i ++ rest) : i.code.len ≤ w.valid := by
  have hlen := code_len_le i
  exact Window.le_valid_of_le_length h (by omega) (by rw [hs, List.length_append, encode_length]; omega)

/-- The decoder answers the code whose bits begin the stream, zeros after its end (R91, R111). -/
theorem Window.decodeWindow_eq_ok_iff {w : Window} (h : w.wf) (ctx : CodeContext) (i : Instr) :
    decodeWindow ctx w.buffer = .ok i ↔
      i.wellFormed ctx = true ∧ ∀ j < i.code.len, (encode i).getD j false = w.streamBits.getD j false := by
  rw [Sys2Proof.decodeWindow_eq_ok_iff]
  refine and_congr_right fun _ => forall₂_congr fun j hj => ?_
  have hlen := code_len_le i
  rw [Window.buffer_getMsbD h (by omega), eq_comm]

theorem runMatch_eq_some_iff_decodeWindow (w : Window) (c : Colour) (i : Instr) :
    runMatch w.peek16.1 c = some i ↔ decodeWindow (.run c) w.buffer = .ok i := by
  change runMatch (w.buffer.extractLsb' 16 16) c = some i ↔ _
  rw [decodeWindow]
  cases runMatch (w.buffer.extractLsb' 16 16) c <;> simp

theorem modeMatch_eq_some_iff_decodeWindow (w : Window) (i : Instr) :
    modeMatch w.peek8.1 = some i ↔ decodeWindow .mode w.buffer = .ok i := by
  change modeMatch (w.buffer.extractLsb' 24 8) = some i ↔ _
  rw [decodeWindow]
  cases modeMatch (w.buffer.extractLsb' 24 8) <;> simp

/-- The end-of-block comparison is the lookup in its context (R197). -/
theorem decodeWindow_endOfBlock_eq_ok_iff (w : Acc) (i : Instr) :
    decodeWindow .endOfBlock w = .ok i ↔ isEndOfBlock (w.extractLsb' 8 24) = true ∧ i = .eob := by
  rw [decodeWindow]
  split <;> simp [*, eq_comm]

/-- The bits of a code at the head of the stream are the stream's. -/
theorem getD_of_eq_append {bits rest stream : List Bool} (hs : stream = bits ++ rest) {j : Nat} (hj : j < bits.length) :
    bits.getD j false = stream.getD j false := by
  rw [hs, List.getD_append _ _ _ _ hj]

/-- Bits that a stream long enough shows from its head begin it. -/
theorem isPrefix_of_getD {bits stream : List Bool} (hlen : bits.length ≤ stream.length)
    (h : ∀ j < bits.length, bits.getD j false = stream.getD j false) : bits <+: stream := by
  refine List.prefix_iff_getElem.mpr ⟨hlen, fun j hj => ?_⟩
  rw [← List.getD_eq_getElem bits false hj, h j hj, List.getD_eq_getElem _ _ (hj.trans_le hlen)]

/-- A run window whose first eight bits are zero is below 0x0100. -/
theorem lt_of_getMsbD_zero {w : BitVec 16} (h : ∀ j < 8, w.getMsbD j = false) : w < 0x0100 := by
  refine BitVec.lt_def.mpr (Nat.lt_pow_two_of_testBit (n := 8) _ fun i hi => ?_)
  rw [BitVec.testBit_toNat]
  rcases Nat.lt_or_ge i 16 with hlt | hge
  · rw [BitVec.getLsbD_eq_getMsbD, h _ (by omega), Bool.and_false]
  · exact BitVec.getLsbD_of_ge _ _ hge

/-! The next code of a run (R143), by what the stream begins with. -/

theorem nextRunCode_of_stream {c : Colour} {w : Window} (h : w.wf) {i : Instr} (hi : i.wellFormed (.run c) = true)
    {rest : List Bool} (hs : w.streamBits = encode i ++ rest) : nextRunCode c w = .ok i := by
  have hlen := Window.code_len_le_valid h hs
  have hpos := code_len_pos i
  have hmatch : runMatch w.peek16.1 c = some i :=
    (runMatch_eq_some_iff_decodeWindow w c i).mpr
      ((Window.decodeWindow_eq_ok_iff h _ i).mpr
        ⟨hi, fun j hj => getD_of_eq_append hs (by rwa [encode_length])⟩)
  simp [nextRunCode, hmatch, hlen.not_gt, show w.valid ≠ 0 by omega]

theorem nextRunCode_of_stream_nil (c : Colour) {w : Window} (h : w.wf) (hs : w.streamBits = []) :
    nextRunCode c w = .error .unexpectedEnd :=
  nextRunCode_of_valid_zero c ((Window.streamBits_eq_nil_iff h).mp hs)

/-- Eight zero bits begin no run code (R96): a window they begin is below 0x0100. -/
theorem nextRunCode_of_stream_zeros (c : Colour) {w : Window} (h : w.wf) (hs : w.streamBits ≠ [])
    (hzero : ∀ j < 8, w.streamBits.getD j false = false) : nextRunCode c w = .error .corruptRunCode := by
  have hv : w.valid ≠ 0 := mt (Window.streamBits_eq_nil_iff h).mpr hs
  have hlow : w.peek16.1 < 0x0100 := lt_of_getMsbD_zero fun j hj => by
    have hbit : w.peek16.1.getMsbD j = w.buffer.getMsbD j :=
      (CodeContext.run c).head_getMsbD w.buffer (show j < 16 by omega)
    rw [hbit, Window.buffer_getMsbD h (by omega), hzero j hj]
  simp [nextRunCode, hv, (runMatch_eq_none_iff _ c).mpr hlow]

/-- The beginning of a code that the stream ends inside is not read (R143). -/
theorem nextRunCode_of_stream_short {c : Colour} {w : Window} (h : w.wf) {i : Instr}
    (hi : i.wellFormed (.run c) = true) (hshort : w.streamBits.length < i.code.len)
    (hbits : ∀ j < i.code.len, (encode i).getD j false = w.streamBits.getD j false) :
    nextRunCode c w = .error .unexpectedEnd := by
  have hv := (Window.valid_le_streamBits_length h).trans_lt hshort
  have hmatch : runMatch w.peek16.1 c = some i :=
    (runMatch_eq_some_iff_decodeWindow w c i).mpr ((Window.decodeWindow_eq_ok_iff h _ i).mpr ⟨hi, hbits⟩)
  simp [nextRunCode, hmatch, hv]

/-- The end-of-block check sees the pattern exactly where it begins the stream (R197). -/
theorem State.showsEndOfBlock_iff {s : State} (h : s.win.wf) :
    s.showsEndOfBlock = true ↔ encode .eob <+: s.win.streamBits := by
  have hdecode : isEndOfBlock (s.win.peek32.1.extractLsb' 8 24) = true ↔
      decodeWindow .endOfBlock s.win.buffer = .ok .eob :=
    ((decodeWindow_endOfBlock_eq_ok_iff s.win.buffer .eob).trans (and_iff_left rfl)).symm
  have hcode : Instr.eob.code.len = 24 := rfl
  have hlast : (encode .eob).getD 23 false = true := by decide
  rw [State.showsEndOfBlock, Bool.and_eq_true, hdecode, Window.decodeWindow_eq_ok_iff h, hcode]
  constructor
  · rintro ⟨-, -, hbits⟩
    have hlen : 24 ≤ s.win.streamBits.length := by
      by_contra hshort
      rw [hbits 23 (by decide), List.getD_eq_default _ _ (by omega)] at hlast
      cases hlast
    exact isPrefix_of_getD (by rwa [encode_length, hcode]) fun j hj => hbits j (by rwa [encode_length, hcode] at hj)
  · rintro ⟨rest, hs⟩
    have hv := Window.code_len_le_valid h hs.symm
    rw [hcode] at hv
    refine ⟨?_, rfl, fun j hj => getD_of_eq_append hs.symm (by rwa [encode_length])⟩
    rw [Window.hasRemaining_eq_decide h, decide_eq_true_iff]
    omega

/-! SUPPORT. The runs in the stream (R94, R143): the codes of a run are read one after the other, and reading them does
nothing but that. -/

/-- `t` is `s` after exactly `bits` were read from the stream. -/
structure HasRead (bits : List Bool) (s t : State) : Prop where
  onlyRead : onlyRead s t
  wf : t.win.wf
  consumed : t.status.consumed = t.win.position
  stream : s.win.streamBits = bits ++ t.win.streamBits

theorem HasRead.refl {s : State} (hw : s.win.wf) (hc : s.status.consumed = s.win.position) : HasRead [] s s :=
  ⟨onlyRead_refl s, hw, hc, rfl⟩

theorem HasRead.trans {a b : List Bool} {s t u : State} (h : HasRead a s t) (k : HasRead b t u) :
    HasRead (a ++ b) s u :=
  ⟨onlyRead_trans h.onlyRead k.onlyRead, k.wf, k.consumed, by rw [h.stream, k.stream, List.append_assoc]⟩

theorem HasRead.remaining {bits : List Bool} {s t : State} (h : HasRead bits s t) (hw : s.win.wf) :
    t.win.remaining + bits.length = s.win.remaining := by
  rw [← Window.streamBits_length (Window.inRange_of_wf hw), ← Window.streamBits_length (Window.inRange_of_wf h.wf),
    h.stream, List.length_append, Nat.add_comm]

theorem HasRead.position {bits : List Bool} {s t : State} (h : HasRead bits s t) (hw : s.win.wf) :
    t.win.position = s.win.position + bits.length := by
  have hs := Window.position_add_remaining (Window.inRange_of_wf hw)
  have ht := Window.position_add_remaining (Window.inRange_of_wf h.wf)
  have hrem := h.remaining hw
  rw [h.onlyRead.2] at ht
  omega

theorem HasRead.state {bits : List Bool} {s t : State} (h : HasRead bits s t) :
    t = { s with win := t.win, status := { s.status with consumed := t.win.position } } := by
  rw [← h.consumed]; exact h.onlyRead.1

/-- Consuming a code that begins the stream reads its bits (R115). -/
theorem hasRead_consume {s : State} (hw : s.win.wf) {i : Instr} {rest : List Bool}
    (hs : s.win.streamBits = encode i ++ rest) : HasRead (encode i) s (s.consume i.code.len) := by
  have hlen := Window.code_len_le_valid hw hs
  refine ⟨onlyRead_consume _ s, Window.consume_wf hw hlen, rfl, ?_⟩
  rw [State.consume_win, Window.consume_streamBits (Window.inRange_of_wf hw) hlen, hs,
    List.drop_left' (encode_length i)]

/-- The same for a mode code, which also begins its line (R176). -/
theorem hasRead_consumeMode {s : State} (hw : s.win.wf) {i : Instr} {rest : List Bool}
    (hs : s.win.streamBits = encode i ++ rest) : HasRead (encode i) { s with phase := .within } (consumeMode i s) :=
  hasRead_consume (s := { s with phase := .within }) hw hs

theorem HasRead.stream_eq {bits rest : List Bool} {s t : State} (h : HasRead bits s t)
    (hs : s.win.streamBits = bits ++ rest) : t.win.streamBits = rest :=
  List.append_cancel_left (h.stream.symm.trans hs)

theorem assemble_cons (i : Instr) (is : List Instr) : assemble (i :: is) = encode i ++ assemble is := by
  simp [assemble]

theorem assemble_append (is js : List Instr) : assemble (is ++ js) = assemble is ++ assemble js := by
  simp [assemble]

theorem pixelsOf_append (cfg : Config) (is js : List Instr) :
    pixelsOf cfg (is ++ js) = pixelsOf cfg is + pixelsOf cfg js := by
  simp [pixelsOf]

theorem wellFormed_of_isMakeUp {c : Colour} {i : Instr} (h : i.isMakeUp c = true) : i.wellFormed (.run c) = true := by
  rw [Instr.wellFormed, h, Bool.or_true]

theorem wellFormed_of_isTerminating {c : Colour} {i : Instr} (h : i.isTerminating c = true) :
    i.wellFormed (.run c) = true := by
  rw [Instr.wellFormed, h, Bool.true_or]

theorem terminates_eq_isTerminating {c : Colour} {i : Instr} (h : i.wellFormed (.run c) = true) :
    i.terminates = i.isTerminating c := by
  have hlist : ∀ c, ∀ i ∈ runList c, i.terminates = i.isTerminating c := by intro c; cases c <;> decide
  exact hlist c i ((CodeContext.run c).mem_table_of_wellFormed i h)

theorem not_isTerminating_of_isMakeUp {c : Colour} {i : Instr} (h : i.isMakeUp c = true) :
    i.isTerminating c = false := by
  have hlist : ∀ c, ∀ i ∈ runList c, i.isMakeUp c = true → i.isTerminating c = false := by intro c; cases c <;> decide
  exact hlist c i ((CodeContext.run c).mem_table_of_wellFormed i (wellFormed_of_isMakeUp h)) h

/-- A run is make-up codes, then one terminating code (R94). -/
theorem exists_of_runWellFormed {c : Colour} {is : List Instr} (h : runWellFormed c is = true) :
    ∃ ms t, is = ms ++ [t] ∧ (∀ i ∈ ms, i.isMakeUp c = true) ∧ t.isTerminating c = true := by
  induction is with
  | nil => cases h
  | cons i is ih =>
    rw [runWellFormed, Bool.or_eq_true, Bool.and_eq_true, Bool.and_eq_true, List.isEmpty_iff] at h
    rcases h with ⟨hterm, rfl⟩ | ⟨hmake, hrest⟩
    · exact ⟨[], i, rfl, by simp, hterm⟩
    · obtain ⟨ms, t, rfl, hms, ht⟩ := ih hrest
      exact ⟨i :: ms, t, rfl, List.forall_mem_cons.mpr ⟨hmake, hms⟩, ht⟩

/-- `DecodeRun` reads the make-up codes at the head of the stream, and goes on with their total (R143). -/
theorem decodeRunFrom_makeUps {c : Colour} {ms : List Instr} (hms : ∀ i ∈ ms, i.isMakeUp c = true) {s : State}
    (hw : s.win.wf) (hc : s.status.consumed = s.win.position) {rest : List Bool}
    (hs : s.win.streamBits = assemble ms ++ rest) {n : Nat} (hn : s.win.remaining ≤ n) (total : Nat) :
    ∃ m t, HasRead (assemble ms) s t ∧ t.win.remaining ≤ m ∧
      decodeRunFrom n c total s = decodeRunFrom m c (total + pixelsOf s.cfg ms) t := by
  induction ms generalizing s n total with
  | nil => exact ⟨n, s, HasRead.refl hw hc, hn, rfl⟩
  | cons i ms ih =>
    obtain ⟨hi, hms⟩ := List.forall_mem_cons.mp hms
    rw [assemble_cons, List.append_assoc] at hs
    have hwf := wellFormed_of_isMakeUp hi
    have hread := hasRead_consume hw hs
    have hpos := code_len_pos i
    have hrem := hread.remaining hw
    rw [encode_length] at hrem
    obtain ⟨n, rfl⟩ : ∃ k, n = k + 1 := ⟨n - 1, by omega⟩
    obtain ⟨m, t, ht, hm, heq⟩ :=
      ih hms hread.wf hread.consumed (hread.stream_eq hs) (n := n) (by omega) (total + i.pixels s.cfg)
    refine ⟨m, t, assemble_cons i ms ▸ hread.trans ht, hm, ?_⟩
    rw [decodeRunFrom_ok (nextRunCode_of_stream hw hwf hs), terminates_eq_isTerminating hwf,
      not_isTerminating_of_isMakeUp hi, if_neg Bool.false_ne_true, heq, pixelsOf_cons, Nat.add_assoc]
    rfl

/-- `DecodeRun` reads a whole run to its terminating code (R143). -/
theorem decodeRun_of_run {c : Colour} {is : List Instr} (his : runWellFormed c is = true) {s : State} (hw : s.win.wf)
    (hc : s.status.consumed = s.win.position) {rest : List Bool} (hs : s.win.streamBits = assemble is ++ rest) :
    ∃ t, HasRead (assemble is) s t ∧ decodeRun c s = .run (pixelsOf s.cfg is) t := by
  obtain ⟨ms, i, rfl, hms, hi⟩ := exists_of_runWellFormed his
  have hwf := wellFormed_of_isTerminating hi
  have hone : assemble [i] = encode i := by simp [assemble]
  rw [assemble_append, List.append_assoc, hone] at hs
  obtain ⟨m, t, ht, hm, heq⟩ := decodeRunFrom_makeUps hms hw hc hs le_rfl 0
  have hst := ht.stream_eq hs
  have hread := hasRead_consume ht.wf hst
  have hrem := hread.remaining ht.wf
  have hpos := code_len_pos i
  rw [encode_length] at hrem
  obtain ⟨m, rfl⟩ : ∃ k, m = k + 1 := ⟨m - 1, by omega⟩
  have hcfg : t.cfg = s.cfg := by rw [ht.onlyRead.1]
  refine ⟨_, by rw [assemble_append, hone]; exact ht.trans hread, ?_⟩
  rw [decodeRun, heq, decodeRunFrom_ok (nextRunCode_of_stream ht.wf hwf hst), terminates_eq_isTerminating hwf, hi,
    if_pos rfl, hcfg, pixelsOf_append, Nat.zero_add]
  simp [pixelsOf]

/-- `DecodeRun` ends the launch at the first code it cannot read; the make-up codes before it stay consumed (R143). -/
theorem decodeRun_of_error {c : Colour} {ms : List Instr} (hms : ∀ i ∈ ms, i.isMakeUp c = true) {s : State}
    (hw : s.win.wf) (hc : s.status.consumed = s.win.position) {rest : List Bool}
    (hs : s.win.streamBits = assemble ms ++ rest) :
    ∃ t, HasRead (assemble ms) s t ∧
      ∀ cause, nextRunCode c t.win = .error cause → decodeRun c s = .ended (endLaunch true cause t) := by
  obtain ⟨m, t, ht, hm, heq⟩ := decodeRunFrom_makeUps hms hw hc hs le_rfl 0
  exact ⟨t, ht, fun cause he => by rw [decodeRun, heq, decodeRunFrom_error hm he]⟩

/-! SUPPORT. HORIZONTAL with its runs in the stream (R186). -/

theorem horizontalAction_of_runs {s t u : State} {r1 r2 : Nat} (h1 : decodeRun s.color s = .run r1 t)
    (h2 : decodeRun s.color.opp t = .run r2 u) : horizontalAction s = .goesOn (horizontalFill r1 r2 u) := by
  rw [horizontalAction, h1]
  dsimp only
  rw [h2]

theorem horizontalAction_of_first_ended {s t : State} (h1 : decodeRun s.color s = .ended t) :
    horizontalAction s = .ended t := by
  rw [horizontalAction, h1]

theorem horizontalAction_of_second_ended {s t u : State} {r1 : Nat} (h1 : decodeRun s.color s = .run r1 t)
    (h2 : decodeRun s.color.opp t = .ended u) : horizontalAction s = .ended u := by
  rw [horizontalAction, h1]
  dsimp only
  rw [h2]

/-- A mode code longer than the valid bits ends the launch where it stands (R175). -/
theorem execMode_of_not_backed {s : State} (hready : s.ready) {i : Instr} (hshort : s.win.valid < i.code.len)
    (action : State → ActionEnd) : execMode i action s = .next (endLaunch true .unexpectedEnd s) := by
  rw [execMode, if_pos hready, if_pos hshort, raiseFault_eq]

/-- A backed mode code goes on to its action (R171 steps 4 and 5). -/
theorem execMode_of_backed {s : State} (h : s.ready) {i : Instr} (hlen : i.code.len ≤ s.win.valid)
    (action : State → ActionEnd) :
    (∀ t, action (consumeMode i s) = .ended t → execMode i action s = .next t) ∧
      ∀ t, action (consumeMode i s) = .goesOn t → execMode i action s = finishStep t := by
  rw [execMode, if_pos h, if_neg hlen.not_gt]
  constructor <;> intro t ht <;> rw [ht]

/-- HORIZONTAL with its two runs next in the stream reads exactly its codes and fills both runs in (R186). -/
theorem exec_h_of_runs {s : State} {run1 run2 : List Instr} {rest : List Bool} (hready : s.ready) (hw : s.win.wf)
    (h1 : runWellFormed s.color run1 = true) (h2 : runWellFormed s.color.opp run2 = true)
    (hs : s.win.streamBits = encode .h ++ assemble run1 ++ assemble run2 ++ rest) :
    ∃ u, HasRead (encode .h ++ assemble run1 ++ assemble run2) { s with phase := .within } u ∧
      exec .h s = finishStep (horizontalFill (pixelsOf s.cfg run1) (pixelsOf s.cfg run2) u) := by
  rw [List.append_assoc, List.append_assoc] at hs
  have hread := hasRead_consumeMode hw hs
  have hs' := hread.stream_eq (s := { s with phase := .within }) hs
  obtain ⟨t, ht, e1⟩ := decodeRun_of_run (s := consumeMode .h s) h1 hread.wf hread.consumed hs'
  have hcfg : t.cfg = s.cfg := by rw [ht.onlyRead.1]; rfl
  obtain ⟨u, hu, e2⟩ := decodeRun_of_run h2 ht.wf ht.consumed (ht.stream_eq hs')
  rw [hcfg] at e2
  exact ⟨u, (hread.trans ht).trans hu,
    (execMode_of_backed hready (Window.code_len_le_valid hw hs) _).2 _ (horizontalAction_of_runs e1 e2)⟩

/-- Settles O25: the two runs are read to their ends, so the position is inside the line and the step stops there. -/
theorem horizontalReadsTwoRuns : Obligations.HorizontalReadsTwoRuns := by
  intro s run1 run2 rest hready hw h1 h2 hs hinside
  obtain ⟨u, hu, hexec⟩ := exec_h_of_runs hready hw h1 h2 hs
  have hstate := hu.state
  have hpos := hu.position hw
  simp only [List.length_append, encode_length] at hpos
  have hline : (horizontalFill (pixelsOf s.cfg run1) (pixelsOf s.cfg run2) u).a0 < u.width := by
    rw [horizontalFill_a0, hstate]; exact hinside
  refine ⟨_, hexec.trans (if_neg hline.not_ge), hu.wf, hu.onlyRead.2, hu.stream_eq hs,
    hpos.trans (by simp [Instr.code, Nat.add_assoc]), ?_, fun x => ?_⟩
  · rw [← colourAfterHorizontal_eq]
    rw [hstate, ← hready.2]
    rfl
  · refine (horizontalFill_cur_getElem? hline.le x).trans ?_
    rw [hstate]

/-- After H, a code that cannot be read ends the run of colour `c` that `pre` leaves unfinished (R186). -/
theorem exec_h_of_unfinished {s : State} {pre : List Instr} {c : Colour} {rest : List Bool} (hready : s.ready)
    (hw : s.win.wf)
    (hpre : (c = s.color ∧ ∀ i ∈ pre, i.isMakeUp s.color = true) ∨
      (c = s.color.opp ∧ ∃ run1 ms, runWellFormed s.color run1 = true ∧ (∀ i ∈ ms, i.isMakeUp s.color.opp = true) ∧
        pre = run1 ++ ms))
    (hs : s.win.streamBits = encode .h ++ assemble pre ++ rest) :
    ∃ u, HasRead (encode .h ++ assemble pre) { s with phase := .within } u ∧
      ∀ cause, nextRunCode c u.win = .error cause → exec .h s = .next (endLaunch true cause u) := by
  rw [List.append_assoc] at hs
  have hread := hasRead_consumeMode hw hs
  have hs' := hread.stream_eq (s := { s with phase := .within }) hs
  obtain ⟨hended, -⟩ := execMode_of_backed hready (Window.code_len_le_valid hw hs) horizontalAction
  rcases hpre with ⟨rfl, hms⟩ | ⟨rfl, run1, ms, h1, hms, rfl⟩
  · obtain ⟨u, hu, e1⟩ := decodeRun_of_error (s := consumeMode .h s) hms hread.wf hread.consumed hs'
    exact ⟨u, hread.trans hu, fun cause he => hended _ (horizontalAction_of_first_ended (e1 cause he))⟩
  · rw [assemble_append, List.append_assoc] at hs'
    obtain ⟨t, ht, e1⟩ := decodeRun_of_run (s := consumeMode .h s) h1 hread.wf hread.consumed hs'
    obtain ⟨u, hu, e2⟩ := decodeRun_of_error hms ht.wf ht.consumed (ht.stream_eq hs')
    exact ⟨u, assemble_append run1 ms ▸ hread.trans (ht.trans hu),
      fun cause he => hended _ (horizontalAction_of_second_ended e1 (e2 cause he))⟩

/-- Settles O26: what is left of the stream is no code of the run being read, for one of three reasons. -/
theorem horizontalRunFaults : Obligations.HorizontalRunFaults := by
  intro s pre c rest hready hw hpre hs
  obtain ⟨u, hu, hexec⟩ := exec_h_of_unfinished hready hw hpre hs
  obtain rfl := hu.stream_eq hs
  have hpos := hu.position hw
  simp only [List.length_append, encode_length] at hpos
  have hended : ∀ cause, endLaunch true cause u =
      ({ s with win := u.win } : State).endedIn true cause .within u.win.position := by
    intro cause
    rw [endLaunch_eq_endedIn, hu.consumed, hu.state]
    rfl
  simp only [hended] at hexec
  exact ⟨u.win, hu.onlyRead.2, rfl, hpos.trans (by simp [Instr.code, Nat.add_assoc]),
    fun hnil => hexec _ (nextRunCode_of_stream_nil c hu.wf hnil),
    fun hne hzero => hexec _ (nextRunCode_of_stream_zeros c hu.wf hne hzero),
    fun _ _ hi hshort hbits => hexec _ (nextRunCode_of_stream_short hu.wf hi hshort hbits)⟩

end Sys2Proof.Machine

namespace Sys2Proof.Machine

/-! SUPPORT. The reference-line search as the first index with a property (R180). -/

/-- The first index below `n` with the property is one, or `n` stands for none. -/
theorem firstIndex_unique {n b b' : Nat} {P : Nat → Prop}
    (h : (b < n ∧ P b ∧ ∀ x < b, ¬P x) ∨ (b = n ∧ ∀ x < n, ¬P x))
    (h' : (b' < n ∧ P b' ∧ ∀ x < b', ¬P x) ∨ (b' = n ∧ ∀ x < n, ¬P x)) : b = b' := by
  rcases h with ⟨hb, hp, hmin⟩ | ⟨rfl, hnone⟩ <;> rcases h' with ⟨hb', hp', hmin'⟩ | ⟨rfl, hnone'⟩
  · rcases Nat.lt_trichotomy b b' with hlt | heq | hgt
    · exact absurd hp (hmin' b hlt)
    · exact heq
    · exact absurd hp' (hmin b' hgt)
  · exact absurd hp (hnone' b hb)
  · exact absurd hp' (hnone b' hb')
  · rfl

theorem State.isB1.unique {s : State} {b b' : Nat} (h : s.isB1 b) (h' : s.isB1 b') : b = b' := by
  refine firstIndex_unique (n := s.width) (P := fun x => searchStart s.a0 ≤ x ∧ s.opposesAt x) ?_ ?_
  · simpa only [State.isB1, and_assoc, not_and] using h
  · simpa only [State.isB1, and_assoc, not_and] using h'

theorem State.isB2.unique {s : State} {b1 b b' : Nat} (h : s.isB2 b1 b) (h' : s.isB2 b1 b') : b = b' := by
  refine firstIndex_unique (n := s.width) (P := fun x => b1 < x ∧ s.changesAt x) ?_ ?_
  · simpa only [State.isB2, and_assoc, not_and] using h
  · simpa only [State.isB2, and_assoc, not_and] using h'

/-- The scan of the reference line for b1 is the declarative search (R180). -/
theorem findB1_isB1 {s : State} (href : s.ref.length = s.width) : s.isB1 (findB1 s) := by
  rw [findB1]
  rcases firstOnLine_cases (fun p c => p != c && c == s.color.opp) (searchStart s.a0) s.ref with
    ⟨x, e, hx, hstart, hhit, hmin⟩ | ⟨e, hnone⟩ <;> rw [e]
  · refine .inl ⟨href ▸ hx, hstart, (s.opposesAt_iff x).mpr hhit, fun y hy hs hopp => ?_⟩
    exact Bool.false_ne_true ((hmin y hy hs).symm.trans ((s.opposesAt_iff y).mp hopp))
  · refine .inr ⟨rfl, fun y hy hs hopp => ?_⟩
    exact Bool.false_ne_true ((hnone y (href ▸ hy) hs).symm.trans ((s.opposesAt_iff y).mp hopp))

/-- The second scan, from right after b1, is the declarative search for b2 (R180). -/
theorem firstOnLine_isB2 {s : State} (href : s.ref.length = s.width) (b1 : Nat) :
    s.isB2 b1 ((firstOnLine (fun p c => p != c) (b1 + 1) s.ref).getD s.width) := by
  rcases firstOnLine_cases (fun p c => p != c) (b1 + 1) s.ref with
    ⟨x, e, hx, hstart, hhit, hmin⟩ | ⟨e, hnone⟩ <;> rw [e]
  · refine .inl ⟨href ▸ hx, hstart, (s.changesAt_iff x).mpr hhit, fun y hy hs hch => ?_⟩
    exact Bool.false_ne_true ((hmin y hy hs).symm.trans ((s.changesAt_iff y).mp hch))
  · refine .inr ⟨rfl, fun y hy hs hch => ?_⟩
    exact Bool.false_ne_true ((hnone y (href ▸ hy) hs).symm.trans ((s.changesAt_iff y).mp hch))

theorem findB_fst (s : State) : (findB s).1 = findB1 s := by
  rw [findB]
  split <;> simp [*]

theorem findB_isB2 {s : State} (href : s.ref.length = s.width) : s.isB2 (findB s).1 (findB s).2 := by
  rw [findB]
  split
  · exact .inr ⟨rfl, fun x hx hlt => absurd hx hlt.not_gt⟩
  · exact firstOnLine_isB2 href _

/-- b1 is at the width, or at the search start or right of it (R180). -/
theorem State.isB1.bounds {s : State} {b : Nat} (h : s.isB1 b) (ha : s.a0 < s.width) :
    searchStart s.a0 ≤ b ∧ b ≤ s.width := by
  rcases h with ⟨hb, hs, -⟩ | ⟨rfl, -⟩
  · exact ⟨hs, hb.le⟩
  · refine ⟨?_, le_rfl⟩
    rw [searchStart]
    split <;> omega

/-- Settles O20: each scan answers the first index it looks for, and there is one such index only. -/
theorem findBIsTheSearch : Obligations.FindBIsTheSearch := by
  intro s href ha
  have h1 := findB1_isB1 href
  have h2 := findB_isB2 href
  obtain ⟨hstart, hle⟩ := h1.bounds ha
  rw [findB_fst] at h2 ⊢
  refine ⟨h1, rfl, h2, hstart, hle, ?_, fun b hb => hb.unique h1⟩
  rcases h2 with ⟨hb2, hlt, -⟩ | ⟨he, -⟩
  · exact .inl ⟨hlt, hb2.le⟩
  · rcases hle.lt_or_eq with hlt | heq
    · exact .inl ⟨by rwa [he], he.le⟩
    · exact .inr ⟨heq, he⟩

/-! SUPPORT. The coding line (R181). -/

theorem State.fill_cur_getElem? (s : State) (lo hi : Nat) (c : Colour) (x : Nat) :
    (s.fill lo hi c).cur[x]? =
      if lo ≤ x ∧ x < min hi s.width then (s.cur[x]?).map (fun _ => some c) else s.cur[x]? := by
  rw [State.fill_cur, fillFrom_getElem?, Nat.zero_add]

/-- Settles O21, by what a fill does to one pixel. -/
theorem fillSetsTheRange : Obligations.FillSetsTheRange := by
  refine fun s lo hi c => ⟨rfl, s.fill_cur_getElem? lo hi c, fun hempty => ?_⟩
  rw [State.fill, fillFrom_empty hempty]

/-- A fill that ends inside the line is not clipped. -/
theorem State.fill_cur_getElem?_of_le {s : State} {hi : Nat} (h : hi ≤ s.width) (lo : Nat) (c : Colour) (x : Nat) :
    (s.fill lo hi c).cur[x]? = if lo ≤ x ∧ x < hi then (s.cur[x]?).map (fun _ => some c) else s.cur[x]? := by
  rw [State.fill_cur_getElem?, Nat.min_eq_left h]

/-! SUPPORT. PASS and VERTICAL (R185, R187 to R193): the position they move to. -/

/-- The state that PASS and VERTICAL leave: filled up to the target in the current colour, and moved there. -/
def State.moveTo (target : Nat) (c : Colour) (s : State) : State :=
  { s.fill s.a0 target s.color with a0 := target, color := c }

/-- PASS moves to b2 and keeps the colour. -/
theorem passAction_of_isB2 {s : State} (href : s.ref.length = s.width) {b1 b2 : Nat} (h1 : s.isB1 b1)
    (h2 : s.isB2 b1 b2) : passAction s = .goesOn (s.moveTo b2 s.color) := by
  have hb1 : b1 = (findB s).1 := (h1.unique (findB1_isB1 href)).trans (findB_fst s).symm
  obtain rfl : b2 = (findB s).2 := h2.unique (hb1 ▸ findB_isB2 href)
  rfl

theorem verticalTarget_of_isB1 {s : State} (href : s.ref.length = s.width) {b1 : Nat} (h1 : s.isB1 b1) (k : Int) :
    verticalTarget k s = b1 + k := by
  rw [verticalTarget, h1.unique (findB1_isB1 href)]

/-- VERTICAL moves to its target and toggles the colour, unless the target is left of the position. -/
theorem verticalAction_of_isB1 {s : State} (href : s.ref.length = s.width) {b1 target : Nat} (h1 : s.isB1 b1) {k : Int}
    (htarget : (target : Int) = b1 + k) (ha : s.a0 ≤ target) :
    verticalAction k s = .goesOn (s.moveTo target s.color.opp) := by
  have hge : ¬(target : Int) < s.a0 := by omega
  rw [verticalAction, verticalTarget_of_isB1 href h1, ← htarget, if_neg hge, Int.toNat_natCast]
  rfl

/-- A step whose position is inside the line stops there (R171 step 6). -/
theorem finishStep_of_lt {s : State} (h : s.a0 < s.width) : finishStep s = .next { s with reading := .mode } :=
  if_neg h.not_ge

/-- A mode code that moves to a target inside the line: what the step leaves (R171, R176). -/
theorem execMode_moveTo {s : State} (hready : s.ready) {i : Instr} (hlen : i.code.len ≤ s.win.valid)
    {action : State → ActionEnd} {target : Nat} {c : Colour} (htarget : target < s.width)
    (ha : action (consumeMode i s) = .goesOn ((consumeMode i s).moveTo target c)) :
    ∃ t : State, execMode i action s = .next t ∧
      t = { s with win := s.win.consume i.code.len, status := s.statusAfter i.code.len, phase := .within,
                   a0 := target, color := c, cur := t.cur } ∧
      ∀ x, t.cur[x]? = if s.a0 ≤ x ∧ x < target then (s.cur[x]?).map (fun _ => some s.color) else s.cur[x]? := by
  refine ⟨_, ((execMode_of_backed hready hlen action).2 _ ha).trans (finishStep_of_lt htarget), ?_,
    State.fill_cur_getElem?_of_le (s := consumeMode i s) htarget.le s.a0 s.color⟩
  rw [← hready.2]
  rfl

/-- Settles O22: PASS moves to b2, which is inside the line. -/
theorem passReachesB2 : Obligations.PassReachesB2 := fun _ _ _ hready hlen href h1 h2 hinside =>
  execMode_moveTo (i := .p) hready hlen hinside (passAction_of_isB2 (s := consumeMode .p _) href h1 h2)

/-- Settles O23: VERTICAL moves to its target, which is inside the line. -/
theorem verticalReachesItsTarget : Obligations.VerticalReachesItsTarget := by
  intro s i k b1 hk hready hlen href h1 ha hinside
  obtain ⟨target, htarget⟩ := Int.eq_ofNat_of_zero_le (show 0 ≤ (b1 : Int) + k by omega)
  have haction := verticalAction_of_isB1 (s := consumeMode i s) href h1 htarget.symm (show s.a0 ≤ target by omega)
  rw [exec_vertical hk, htarget, Int.toNat_natCast]
  simpa only [Nat.cast_lt, consumeMode_color] using execMode_moveTo hready hlen (by omega) haction

/-- Settles O24: b1 is never left of `a0`, and right of it but at the first pixel of a line. -/
theorem verticalLeftOfA0EndsTheLaunch : Obligations.VerticalLeftOfA0EndsTheLaunch := by
  intro s i k b1 hk hready hlen href ha h1
  obtain ⟨hstart, -⟩ := h1.bounds ha
  rw [searchStart] at hstart
  refine ⟨fun hleft => ?_, fun hk0 => ?_, fun hk1 hleft => ?_⟩
  · have haction : verticalAction k (consumeMode i s) = .ended (endLaunch true .verticalRange (consumeMode i s)) := by
      rw [verticalAction, verticalTarget_of_isB1 (s := consumeMode i s) href h1, consumeMode_a0, if_pos hleft,
        raiseFault_eq]
    rw [exec_vertical hk, (execMode_of_backed hready hlen _).1 _ haction, endLaunch_eq_endedIn]
    rfl
  · split at hstart <;> omega
  · split at hstart <;> omega

end Sys2Proof.Machine

namespace Sys2Proof.Machine

/-! SUPPORT. Line completion (R195 to R198): which of its three answers it gives, and what a completed line leaves. -/

theorem completeLine_of_atLineLimit {s : State} (h : s.atLineLimit = true) :
    completeLine s = .next (endLaunch true .lineLimit s) := by
  rw [completeLine, if_pos h, raiseFault_eq]

theorem completeLine_of_written {s : State} (hl : s.atLineLimit = false) {px : List Colour}
    (hw : writtenPixels s.width s.cur = some px) :
    completeLine s = .next ((s.emit px).newLine px).checkEndOfBlock := by
  rw [completeLine, hl, if_neg Bool.false_ne_true, hw]

theorem finishStep_of_le {s : State} (h : s.width ≤ s.a0) : finishStep s = completeLine s := if_pos h

theorem atLineLimit_eq_false {s : State} (h : s.cfg.maxLines ≠ some s.lines) : s.atLineLimit = false :=
  beq_eq_false_iff_ne.mpr h

/-- A line whose position has reached the width is written to its end (R199). -/
theorem State.InLine.exists_writtenPixels {s : State} (h : s.InLine) (ha : s.width ≤ s.a0) :
    ∃ px, writtenPixels s.width s.cur = some px :=
  writtenPixels_isSome fun x hx => h.written x (hx.trans_le ha) hx

/-- `OUT` after the emission of a line (R196, R72). -/
theorem State.emit_out_read (s : State) {px : List Colour} (hlen : px.length = s.width) (a : Nat) :
    (s.emit px).out.read a =
      if s.lines * s.width ≤ a ∧ a < (s.lines + 1) * s.width then (px[a - s.lines * s.width]?).map s.pixelByte
      else s.out.read a := by
  rw [State.emit_out, Memory.read_writeLine, List.length_map, hlen, List.getElem?_map, Nat.succ_mul]

/-- What the completion of the line `px` leaves of `s`, with `rest` of the stream still to come: the line's bytes in
`OUT`, the line as the reference, a white line start, and the launch ended exactly where the end-of-block pattern stands
next (R195 to R198, R72). -/
structure LineDone (rest : List Bool) (px : List Colour) (s t : State) : Prop where
  length : px.length = s.width
  state : t = { s with win := t.win, out := t.out, ref := px, cur := List.replicate s.width none, a0 := 0,
                       color := .white, lines := s.lines + 1, phase := t.phase, status := t.status }
  out : ∀ a, t.out.read a =
    if s.lines * s.width ≤ a ∧ a < (s.lines + 1) * s.width then (px[a - s.lines * s.width]?).map s.pixelByte
    else s.out.read a
  phase : t.phase = if encode .eob <+: rest then .done else .between
  status : t.status =
    if encode .eob <+: rest then
      { busy := false, done := true, error := false, cause := .endOfBlock, partialLine := false,
        lines := s.lines + 1, consumed := t.win.position }
    else { s.status with lines := s.lines + 1, consumed := t.win.position }

/-- The completion of a written line below the line limit (R195). -/
theorem State.InLine.completeLine_done {s : State} (h : s.InLine) (hr : s.reading = .mode) (ha : s.width ≤ s.a0)
    (hl : s.cfg.maxLines ≠ some s.lines) :
    ∃ t px, completeLine s = .next t ∧ t.win = s.win ∧ LineDone s.win.streamBits px s t ∧
      ∀ x < s.width, (px.map some)[x]? = s.cur[x]? := by
  obtain ⟨px, hw⟩ := h.exists_writtenPixels ha
  obtain ⟨hlen, hpx⟩ := writtenPixels_getElem? hw
  have hshows : ((s.emit px).newLine px).showsEndOfBlock = true ↔ encode .eob <+: s.win.streamBits :=
    State.showsEndOfBlock_iff (s := (s.emit px).newLine px) h.win
  rcases ((s.emit px).newLine px).checkEndOfBlock_cases with ⟨he, e⟩ | ⟨he, e⟩
  · have heob := hshows.mp he
    refine ⟨_, px, (completeLine_of_written (atLineLimit_eq_false hl) hw).trans (congrArg _ e), rfl,
      ⟨hlen, ?_, s.emit_out_read hlen, (if_pos heob).symm, ?_⟩, fun x hx => (hpx x hx).symm⟩
    · rw [hr]; rfl
    · rw [if_pos heob]
      exact congrArg (fun n => ({ endStatus false .endOfBlock ((s.emit px).newLine px) with consumed := n } : Status))
        h.consumed
  · have heob : ¬encode .eob <+: s.win.streamBits := fun hp => Bool.false_ne_true (he.symm.trans (hshows.mpr hp))
    refine ⟨_, px, (completeLine_of_written (atLineLimit_eq_false hl) hw).trans (congrArg _ e), rfl,
      ⟨hlen, ?_, s.emit_out_read hlen, (if_neg heob).symm, ?_⟩, fun x hx => (hpx x hx).symm⟩
    · rw [hr]; rfl
    · rw [if_neg heob]
      exact congrArg (fun n => ({ s.status with lines := s.lines + 1, consumed := n } : Status)) h.consumed

/-- The line's beginning in the same step is no part of what is left: only `cur`, the position, the colour and the
phase differ, and the completion writes them all. -/
theorem LineDone.of_moved {bits rest : List Bool} {px : List Colour} {s v u t : State}
    (hread : HasRead bits { s with phase := .within } v)
    (hu : u = { v with a0 := u.a0, color := u.color, cur := u.cur }) (h : LineDone rest px u t) :
    LineDone rest px s t := by
  rw [hread.state] at hu
  obtain ⟨hlen, hstate, hout, hphase, hstatus⟩ := h
  refine ⟨by rw [hlen, hu], ?_, fun a => ?_, hphase, ?_⟩
  · rw [hstate, hu]
  · rw [hout, hu]; rfl
  · rw [hstatus, hu]

/-- A step that reads `bits` and moves to the width or past it completes its line (R171 step 6). -/
theorem finishStep_done {bits rest : List Bool} {s v u : State} (hread : HasRead bits { s with phase := .within } v)
    (hu : u = { v with a0 := u.a0, color := u.color, cur := u.cur }) (hline : u.InLine) (hr : s.reading = .mode)
    (ha : s.width ≤ u.a0) (hl : s.cfg.maxLines ≠ some s.lines) (hw : s.win.wf)
    (hs : s.win.streamBits = bits ++ rest) :
    ∃ t px, finishStep u = .next t ∧ LineDone rest px s t ∧ t.win.streamBits = rest ∧
      t.win.position = s.win.position + bits.length ∧ ∀ x < s.width, (px.map some)[x]? = u.cur[x]? := by
  have hu' := hu
  rw [hread.state] at hu'
  have hwidth : u.width = s.width := by rw [hu']
  have hwin : u.win = v.win := by rw [hu]
  obtain ⟨t, px, ht, htwin, hdone, hpx⟩ :=
    hline.completeLine_done (by rw [hu']; exact hr) (hwidth ▸ ha) (by rw [hu']; exact hl)
  rw [hwin, hread.stream_eq hs] at hdone
  rw [hwidth] at hpx
  refine ⟨t, px, (finishStep_of_le (hwidth ▸ ha)).trans ht, hdone.of_moved hread hu, ?_, ?_, hpx⟩
  · rw [htwin, hwin, hread.stream_eq hs]
  · rw [htwin, hwin]; exact hread.position hw

/-- What the invariant says of the window, the line stores and the position during a launch (R22, R25, R28, R29). -/
theorem State.inv.launch {s : State} (h : s.inv) (hc : s.phase.coding = true) :
    s.win.wf ∧ s.ref.length = s.width ∧ s.cur.length = s.width ∧ s.a0 < s.width := by
  obtain ⟨-, -, -, -, hlaunch⟩ := h
  obtain ⟨hwin, -, ⟨-, href, hcur, ha, -⟩, -⟩ := hlaunch hc
  exact ⟨hwin, href, hcur, ha⟩

/-- The fill of PASS and VERTICAL to the width or past it: the rest of the line, in the current colour (R181). -/
theorem State.moveTo_cur_getElem? {s : State} {target : Nat} (htarget : s.width ≤ target)
    (hcur : s.cur.length = s.width) (c : Colour) {x : Nat} (hx : x < s.width) :
    (s.moveTo target c).cur[x]? = if s.a0 ≤ x then some (some s.color) else s.cur[x]? := by
  refine (s.fill_cur_getElem? s.a0 target s.color x).trans ?_
  rw [Nat.min_eq_right htarget, List.getElem?_eq_getElem (hx.trans_eq hcur.symm)]
  simp [hx]

/-- A PASS or VERTICAL code goes on to its target, which is at the width or past it. -/
theorem exec_of_target {s : State} {i : Instr} {b1 target : Nat} (hready : s.ready) (hlen : i.code.len ≤ s.win.valid)
    (href : s.ref.length = s.width) (ha : s.a0 ≤ target) (h1 : s.isB1 b1)
    (hcode : (i = .p ∧ s.isB2 b1 target) ∨ ∃ k, (i, k) ∈ verticalCodes ∧ (target : Int) = b1 + k) :
    ∃ c, exec i s = finishStep ((consumeMode i s).moveTo target c) := by
  rcases hcode with ⟨rfl, h2⟩ | ⟨k, hk, htarget⟩
  · exact ⟨_, (execMode_of_backed hready hlen _).2 _ (passAction_of_isB2 (s := consumeMode .p s) href h1 h2)⟩
  · have haction := verticalAction_of_isB1 (s := consumeMode i s) href h1 htarget ha
    exact ⟨_, (exec_vertical hk s).trans ((execMode_of_backed hready hlen _).2 _ haction)⟩

/-- Settles O27: the code is read, the rest of the line is filled, and the line is complete. -/
theorem passAndVerticalCompleteTheLine : Obligations.PassAndVerticalCompleteTheLine := by
  intro s i b1 target rest hinv hready h1 hcode htarget hs hl
  obtain ⟨hw, href, hcur, ha⟩ := hinv.launch hready.1
  have hlen := Window.code_len_le_valid hw hs
  obtain ⟨c, hexec⟩ := exec_of_target hready hlen href (ha.le.trans htarget) h1 hcode
  have hline := State.inLine_consumeMode hinv hready.1 hlen
  obtain ⟨t, px, ht, ⟨hpxlen, hstate, hout, hphase, hstatus⟩, hstream, hpos, hpx⟩ :=
    finishStep_done (hasRead_consumeMode hw hs) (u := (consumeMode i s).moveTo target c) rfl
      (hline.fillTo target s.color c) hready.2 htarget hl hw hs
  rw [encode_length] at hpos
  exact ⟨t, px, hexec.trans ht, hpxlen,
    fun x hx => (hpx x hx).trans (State.moveTo_cur_getElem? (s := consumeMode i s) htarget hcur c hx),
    hstream, hpos, hstate, hout, hphase, hstatus⟩

/-- Reading from the stream keeps what a line in progress keeps. -/
theorem State.InLine.hasRead {bits : List Bool} {s t : State} (h : s.InLine) (hread : HasRead bits s t) : t.InLine := by
  rw [hread.state]
  exact { h with win := hread.wf, consumed := rfl }

/-- The fills of two runs that reach the width or pass it, the excess discarded (R181, R186). -/
theorem horizontalFill_cur_of_le {r1 r2 : Nat} {s : State} (h : s.width ≤ s.a0 + r1 + r2)
    (hcur : s.cur.length = s.width) {x : Nat} (hx : x < s.width) :
    (horizontalFill r1 r2 s).cur[x]? =
      if x < s.a0 then s.cur[x]? else if x < s.a0 + r1 then some (some s.color) else some (some s.color.opp) := by
  rw [horizontalFill_cur, Nat.min_eq_right h, fillFrom_getElem?, fillFrom_getElem?, Nat.zero_add,
    List.getElem?_eq_getElem (hx.trans_eq hcur.symm)]
  rcases Nat.lt_or_ge x s.a0 with hbefore | hfrom
  · simp [hbefore, hbefore.not_ge, show ¬s.a0 + r1 ≤ x by omega]
  · rcases Nat.lt_or_ge x (s.a0 + r1) with hfirst | hsecond
    · simp [hfrom, hfrom.not_gt, hfirst, hfirst.not_ge, hx]
    · simp [hfrom.not_gt, hsecond, hsecond.not_gt, hx]

/-- Settles O28: both runs are read and filled in, and the line is complete. -/
theorem horizontalCompletesTheLine : Obligations.HorizontalCompletesTheLine := by
  intro s run1 run2 rest hinv hready h1 h2 hs hwidth hl
  obtain ⟨hw, -, hcur, -⟩ := hinv.launch hready.1
  obtain ⟨v, hread, hexec⟩ := exec_h_of_runs hready hw h1 h2 hs
  have hline := (State.inLine_of_inv hinv hready.1).hasRead hread
  have hv := hread.state
  have ha : s.width ≤ (horizontalFill (pixelsOf s.cfg run1) (pixelsOf s.cfg run2) v).a0 := by
    rw [horizontalFill_a0, hv]; exact hwidth
  obtain ⟨t, px, ht, ⟨hpxlen, hstate, hout, hphase, hstatus⟩, hstream, hpos, hpx⟩ :=
    finishStep_done hread rfl (hline.fillRuns _ _) hready.2 ha hl hw hs
  simp only [List.length_append, encode_length] at hpos
  refine ⟨t, px, hexec.trans ht, hpxlen, fun x hx => (hpx x hx).trans ?_, hstream,
    hpos.trans (by simp [Instr.code, Nat.add_assoc]), hstate, hout, hphase, hstatus⟩
  rw [hv]
  exact horizontalFill_cur_of_le (s := { s with win := v.win, status := _, phase := .within }) hwidth hcur hx

end Sys2Proof.Machine

namespace Sys2Proof.Machine

/-! SUPPORT. Progress (R170, R199): no step of an invariant state meets an unwritten pixel or a code out of place. -/

theorem State.InLine.finishStep_steps {s : State} (h : s.InLine) : ∃ t, finishStep s = .next t := by
  rcases finishStep_cases s with ⟨_, e⟩ | ⟨ha, e⟩ <;> rw [e]
  · exact ⟨_, rfl⟩
  · obtain ⟨px, hpx⟩ := h.exists_writtenPixels ha
    rcases completeLine_cases s with ⟨_, e'⟩ | ⟨_, hnone, _⟩ | ⟨_, _, _, e'⟩
    · exact ⟨_, e'⟩
    · simp [hnone] at hpx
    · exact ⟨_, e'⟩

theorem State.inv.execMode_steps {s : State} (h : s.inv) (hready : s.ready) {action : State → ActionEnd}
    (haction : ∀ u : State, u.InLine → (action u).KeepsInv) (i : Instr) : ∃ t, execMode i action s = .next t := by
  rcases execMode_ready hready i action with ⟨_, e⟩ | ⟨hlen, ⟨t, _, e⟩ | ⟨t, ht, e⟩⟩ <;> rw [e]
  · exact ⟨_, rfl⟩
  · exact ⟨_, rfl⟩
  · have hkeeps := haction _ (State.inLine_consumeMode h hready.1 hlen)
    rw [ht] at hkeeps
    exact State.InLine.finishStep_steps hkeeps

theorem State.inv.modeCode_steps {s : State} (h : s.inv) (hready : s.ready) {i : Instr}
    (hi : i.wellFormed .mode = true) : ∃ t, exec i s = .next t := by
  rcases mode_cases hi with rfl | rfl | rfl | ⟨k, hk⟩
  · exact h.execMode_steps hready (fun _ hu => hu.keepsInv_pass) .p
  · exact h.execMode_steps hready (fun _ hu => hu.keepsInv_horizontal) .h
  · exact ⟨_, exec_ext_of_ready hready⟩
  · rw [exec_vertical hk]
    exact h.execMode_steps hready (fun _ hu => hu.keepsInv_vertical k) i

theorem State.inv.codingStep_steps {s : State} (h : s.inv) (hready : s.ready) : ∃ t, codingStep s = .next t := by
  rcases codingStep_cases s with ⟨_, e⟩ | ⟨_, _, e⟩ | ⟨_, _, _, e⟩ | ⟨i, _, _, _, hi, e⟩ <;> rw [e]
  · exact ⟨_, rfl⟩
  · exact ⟨_, rfl⟩
  · exact ⟨_, rfl⟩
  · exact h.modeCode_steps hready hi

/-- A code added to the run being read moves on inside the run, or ends the step (R143). -/
theorem State.InLine.addRun_steps {s : State} (h : s.InLine) {c : Colour} (hc : s.runColour? = some c)
    (terminates : Bool) (pixels : Nat) : ∃ t, addRun terminates pixels s = .next t := by
  unfold addRun
  split
  case h_1 => exact ⟨_, rfl⟩
  case h_2 =>
    split
    · exact (h.fillRuns _ _).finishStep_steps
    · exact ⟨_, rfl⟩
  case h_3 hr => simp [State.runColour?, hr] at hc
  case h_4 hr => simp [State.runColour?, hr] at hc

theorem State.inv.runCodeStep_steps {s : State} (h : s.inv) (hcoding : s.phase.coding = true) {c : Colour}
    (hc : s.runColour? = some c) : ∃ t, runCodeStep c s = .next t := by
  rcases runCodeStep_cases c s with ⟨_, e⟩ | ⟨_, _, e⟩ | ⟨i, _, _, hi, e⟩ <;> rw [e]
  · exact ⟨_, rfl⟩
  · exact ⟨_, rfl⟩
  · rcases execRunCode_reads (readsRunCode_of hcoding hc hi) with ⟨_, e'⟩ | ⟨hlen, e'⟩ <;> rw [e']
    · exact ⟨_, rfl⟩
    · have hline := State.inLine_of_inv h hcoding
      obtain ⟨-, -, -, -, hlaunch⟩ := h
      obtain ⟨-, -, -, -, hreading, -⟩ := hlaunch hcoding
      have hwithin : s.phase = .within := hreading (by rw [hc]; rfl)
      rw [← hwithin] at hline
      exact (hline.consume hlen).addRun_steps hc _ _

/-- The end-of-block pattern, where the check waits for it, ends the launch (R197). -/
theorem exec_eob_of_waiting {s : State} (hcoding : s.phase.coding = true) (hr : s.reading = .endOfBlock) :
    exec .eob s = .next (endLaunch false .endOfBlock s) := by
  rw [exec_eob, execEob, if_pos ⟨hcoding, hr⟩, raiseStop_eq]

theorem endOfBlockStep_steps {s : State} (hcoding : s.phase.coding = true) (hr : s.reading = .endOfBlock) :
    ∃ t, endOfBlockStep s = .next t := by
  unfold endOfBlockStep
  split
  · exact ⟨_, exec_eob_of_waiting hcoding hr⟩
  · exact ⟨_, rfl⟩

theorem State.inv.launchStep_steps {s : State} (h : s.inv) (hcoding : s.phase.coding = true) :
    ∃ t, launchStep s = .next t := by
  unfold launchStep
  split
  case h_1 hr => exact h.codingStep_steps ⟨hcoding, hr⟩
  case h_2 hr => exact h.runCodeStep_steps hcoding (State.runColour?_of_firstRun hr)
  case h_3 hr => exact h.runCodeStep_steps hcoding (State.runColour?_of_secondRun hr)
  case h_4 hr => exact endOfBlockStep_steps hcoding hr

/-- Settles O46, by the rows of the transition: only a launch could stop, and at none of its places does it. -/
theorem invariantStatesStepOn : Obligations.InvariantStatesStepOn := by
  intro s h
  rcases step_cases s with ⟨_, e⟩ | ⟨_, _, _, e⟩ | ⟨_, _, _, e⟩ | ⟨_, hcoding, e⟩ <;> rw [e]
  · exact ⟨_, rfl⟩
  · exact ⟨_, rfl⟩
  · exact ⟨_, rfl⟩
  · exact State.inv.launchStep_steps (s := s.dropStart) h hcoding

/-! SUPPORT. Termination (R200): the stream bits left fall with every coding step that does not end the launch. -/

/-- No run gives back a bit (R143, R144). -/
theorem decodeRunFrom_remaining_le {n : Nat} {c : Colour} {total px : Nat} {s t : State} (hw : s.win.inRange)
    (h : decodeRunFrom n c total s = .run px t) : t.win.inRange ∧ t.win.remaining ≤ s.win.remaining := by
  induction n generalizing total s with
  | zero => cases h
  | succ n ih =>
    cases ho : nextRunCode c s.win with
    | error cause => simp [decodeRunFrom, ho] at h
    | ok i =>
      obtain ⟨hw', hrem⟩ := consume_nextRunCode hw ho
      rw [decodeRunFrom_ok ho] at h
      split at h
      · cases h; exact ⟨hw', hrem.le⟩
      · obtain ⟨ht, hle⟩ := ih (s := s.consume i.code.len) hw' h
        exact ⟨ht, hle.trans hrem.le⟩

/-- The launch ended, or it goes on and no stream bit came back. -/
def EndsOrKeeps (s t : State) : Prop :=
  t.phase = .done ∨ (t.phase.coding = true ∧ t.win.remaining ≤ s.win.remaining)

theorem finishStep_endsOrKeeps {s t : State} (hp : s.phase.coding = true) (h : finishStep s = .next t) :
    EndsOrKeeps s t := by
  rcases finishStep_cases s with ⟨_, e⟩ | ⟨_, e⟩ <;> rw [e] at h
  · cases h; exact .inr ⟨hp, le_rfl⟩
  · rcases completeLine_cases s with ⟨_, e'⟩ | ⟨_, _, e'⟩ | ⟨px, _, _, e'⟩ <;> rw [e'] at h <;> cases h
    · exact .inl rfl
    · rcases ((s.emit px).newLine px).checkEndOfBlock_cases with ⟨_, e''⟩ | ⟨_, e''⟩ <;> rw [e'']
      · exact .inl rfl
      · exact .inr ⟨rfl, le_rfl⟩

/-- An action ends the launch, or goes on in it and gives no stream bit back. -/
def ActionKeepsStream (action : State → ActionEnd) : Prop :=
  ∀ u : State, u.win.inRange →
    (∀ v, action u = .ended v → v.phase = .done) ∧
      ∀ v, action u = .goesOn v → v.phase = u.phase ∧ v.win.remaining ≤ u.win.remaining

theorem pass_keepsStream : ActionKeepsStream passAction := by
  refine fun u _ => ⟨fun v h => ?_, fun v h => ?_⟩ <;> cases h
  exact ⟨rfl, le_rfl⟩

theorem vertical_keepsStream (k : Int) : ActionKeepsStream (verticalAction k) := by
  intro u _
  unfold verticalAction
  split
  · refine ⟨fun v h => ?_, fun v h => ?_⟩ <;> cases h
    rfl
  · refine ⟨fun v h => ?_, fun v h => ?_⟩ <;> cases h
    exact ⟨rfl, le_rfl⟩

theorem decodeRun_cases (c : Colour) (s : State) :
    (∃ px t, decodeRun c s = .run px t ∧ onlyRead s t) ∨
      ∃ cause t, decodeRun c s = .ended (endLaunch true cause t) ∧ onlyRead s t :=
  decodeRunFrom_cases s.win.remaining c 0 s

theorem decodeRun_phase {c : Colour} {s t : State} {px : Nat} (h : decodeRun c s = .run px t) : t.phase = s.phase := by
  rcases decodeRun_cases c s with ⟨_, u, e, hread, -⟩ | ⟨_, u, e, -⟩ <;> rw [e] at h <;> cases h
  rw [hread]

theorem decodeRun_ended_phase {c : Colour} {s t : State} (h : decodeRun c s = .ended t) : t.phase = .done := by
  rcases decodeRun_cases c s with ⟨_, u, e, -⟩ | ⟨_, u, e, -⟩ <;> rw [e] at h <;> cases h
  rfl

theorem horizontal_keepsStream : ActionKeepsStream horizontalAction := by
  intro u hu
  cases e1 : decodeRun u.color u with
  | ended t =>
    rw [horizontalAction_of_first_ended e1]
    refine ⟨fun v h => ?_, fun v h => ?_⟩ <;> cases h
    exact decodeRun_ended_phase e1
  | run r1 t =>
    obtain ⟨ht, hle⟩ := decodeRunFrom_remaining_le hu e1
    cases e2 : decodeRun u.color.opp t with
    | ended w =>
      rw [horizontalAction_of_second_ended e1 e2]
      refine ⟨fun v h => ?_, fun v h => ?_⟩ <;> cases h
      exact decodeRun_ended_phase e2
    | run r2 w =>
      rw [horizontalAction_of_runs e1 e2]
      refine ⟨fun v h => ?_, fun v h => ?_⟩ <;> cases h
      exact ⟨(decodeRun_phase e2).trans (decodeRun_phase e1), (decodeRunFrom_remaining_le ht e2).2.trans hle⟩

/-- The launch ended, or it goes on with fewer stream bits left. -/
def EndsOrConsumes (s t : State) : Prop :=
  t.phase = .done ∨ (t.phase.coding = true ∧ t.win.remaining < s.win.remaining)

/-- A mode code that does not end the launch consumes itself at least (R90, R200). -/
theorem execMode_endsOrConsumes {i : Instr} {action : State → ActionEnd} (ha : ActionKeepsStream action) {s t : State}
    (hready : s.ready) (hw : s.win.inRange) (h : execMode i action s = .next t) : EndsOrConsumes s t := by
  rcases execMode_ready hready i action with ⟨_, e⟩ | ⟨hlen, hgo⟩
  · rw [e] at h; cases h; exact .inl rfl
  · obtain ⟨hw', hrem⟩ := Window.consume_inRange hw hlen
    have hpos := code_len_pos i
    obtain ⟨hended, hgoesOn⟩ := ha (consumeMode i s) hw'
    rcases hgo with ⟨u, hu, e⟩ | ⟨u, hu, e⟩ <;> rw [e] at h
    · cases h; exact .inl (hended _ hu)
    · obtain ⟨hphase, hle⟩ := hgoesOn u hu
      rw [consumeMode_win] at hle
      refine (finishStep_endsOrKeeps (by rw [hphase]; rfl) h).imp_right fun ⟨hp, hkeep⟩ => ⟨hp, ?_⟩
      omega

theorem modeCode_endsOrConsumes {i : Instr} (hi : i.wellFormed .mode = true) {s t : State} (hready : s.ready)
    (hw : s.win.inRange) (h : exec i s = .next t) : EndsOrConsumes s t := by
  rcases mode_cases hi with rfl | rfl | rfl | ⟨k, hk⟩
  · exact execMode_endsOrConsumes pass_keepsStream hready hw h
  · exact execMode_endsOrConsumes horizontal_keepsStream hready hw h
  · rw [exec_ext_of_ready hready] at h; cases h; exact .inl rfl
  · rw [exec_vertical hk] at h
    exact execMode_endsOrConsumes (vertical_keepsStream k) hready hw h

theorem codingStep_endsOrConsumes {s t : State} (hready : s.ready) (hw : s.win.inRange) (h : codingStep s = .next t) :
    EndsOrConsumes s t := by
  rcases codingStep_cases s with ⟨_, e⟩ | ⟨_, _, e⟩ | ⟨_, _, _, e⟩ | ⟨i, _, _, _, hi, e⟩ <;> rw [e] at h
  · cases h; exact .inl rfl
  · cases h; exact .inl rfl
  · cases h; exact .inl rfl
  · exact modeCode_endsOrConsumes hi hready hw h

/-- At the top of a coding step, without RST, the machine runs one (R170, R171). -/
theorem step_of_ready {s : State} (h : s.ready) (hr : s.pins.rst = false) : step s = codingStep s.dropStart := by
  rw [step_launch h.1 hr]
  simp [launchStep, h.2]

/-- Settles O47: the bits left fall, so the position rises, and both together are the source. -/
theorem everyStepConsumesOrEnds : Obligations.EveryStepConsumesOrEnds := by
  intro s t hinv hready hr h
  obtain ⟨hw, -⟩ := hinv.launch hready.1
  have hcoding := (step_of_ready hready hr).symm.trans h
  refine (codingStep_endsOrConsumes (s := s.dropStart) hready (Window.inRange_of_wf hw) hcoding).imp_right
    fun ⟨hp, hlt⟩ => ?_
  obtain ⟨hwt, -⟩ := (stepKeepsTheInvariant s t hinv h).launch hp
  have hs := Window.position_add_remaining (Window.inRange_of_wf hw)
  have ht := Window.position_add_remaining (Window.inRange_of_wf hwt)
  rw [(sameLaunch_codingStep hcoding).source] at ht
  rw [State.dropStart_win] at hlt ht
  exact ⟨hp, by omega, by omega⟩

/-- A run of any machine goes on from the state its first step answers. -/
theorem run_succ_of_next {M : Host.Core} {s t : M.State} (h : M.step s = .next t) (k : Nat) :
    M.run (k + 1) s = M.run k t := by
  rw [Host.Core.run, h]

/-- A run that answers a next state took its first step. -/
theorem exists_step_of_run {M : Host.Core} {s u : M.State} {k : Nat} (h : M.run (k + 1) s = .next u) :
    ∃ t, M.step s = .next t ∧ M.run k t = .next u := by
  rw [Host.Core.run] at h
  cases hs : M.step s with
  | next t => rw [hs] at h; exact ⟨t, rfl, h⟩
  | fault e | refused e => rw [hs] at h; cases h

theorem core_run_succ {s t : State} (h : step s = .next t) (k : Nat) : core.run (k + 1) s = core.run k t :=
  run_succ_of_next (M := core) h k

/-- Settles O48, by induction on the stream bits left, which fall with every step that does not end the launch. -/
theorem launchReachesDone : Obligations.LaunchReachesDone := by
  intro s
  induction hn : s.win.remaining using Nat.strong_induction_on generalizing s with
  | h n ih =>
    intro hinv hready hr
    obtain ⟨t, ht⟩ := invariantStatesStepOn s hinv
    have hcoding := (step_of_ready hready hr).symm.trans ht
    obtain ⟨hw, -⟩ := hinv.launch hready.1
    rcases codingStep_endsOrConsumes (s := s.dropStart) hready (Window.inRange_of_wf hw) hcoding with hdone | ⟨hp, hlt⟩
    · exact ⟨1, by omega, t, core_run_succ ht 0, hdone⟩
    · rw [State.dropStart_win, hn] at hlt
      have hrt : t.pins.rst = false := by rw [(sameLaunch_codingStep hcoding).pins]; exact hr
      obtain ⟨k, hk, u, hu, hdone⟩ := ih _ hlt t rfl (stepKeepsTheInvariant s t hinv ht)
        ⟨hp, codingStep_reading hcoding⟩ hrt
      exact ⟨k + 1, by omega, u, (core_run_succ ht k).trans hu, hdone⟩

end Sys2Proof.Machine

namespace Sys2Proof.Machine

/-! SUPPORT. What the decoding does not read (R201, R202, R205): a change of the state that no check, no run and no end
of a launch sees. -/

/-- A change of the state that reading runs and ending a launch do not see: it may be made before them or after. -/
structure Unread (g : State → State) : Prop where
  win : ∀ s, (g s).win = s.win
  color : ∀ s, (g s).color = s.color
  extOffset : ∀ s, (g s).cfg.extOffset = s.cfg.extOffset
  consume_comm : ∀ n s, (g s).consume n = g (s.consume n)
  endLaunch_comm : ∀ e c s, endLaunch e c (g s) = g (endLaunch e c s)
  setReading_comm : ∀ r s, ({ g s with reading := r } : State) = g { s with reading := r }

/-- `f` of the state that a run read answers. -/
def RunRead.map (f : State → State) : RunRead → RunRead
  | .run px t => .run px (f t)
  | .ended t => .ended (f t)

theorem Unread.pixels {g : State → State} (hg : Unread g) (i : Instr) (s : State) :
    i.pixels (g s).cfg = i.pixels s.cfg := by
  unfold Instr.pixels
  rw [hg.extOffset]

theorem Unread.decodeRunFrom_comm {g : State → State} (hg : Unread g) (n : Nat) (c : Colour) (total : Nat) (s : State) :
    decodeRunFrom n c total (g s) = (decodeRunFrom n c total s).map g := by
  induction n generalizing total s with
  | zero => rw [decodeRunFrom, decodeRunFrom, raiseFault_eq, hg.endLaunch_comm]; rfl
  | succ n ih =>
    rw [decodeRunFrom, decodeRunFrom, hg.win]
    cases nextRunCode c s.win with
    | error cause => simp only [raiseFault_eq, hg.endLaunch_comm, RunRead.map]
    | ok i =>
      simp only [hg.pixels, hg.consume_comm, ih]
      split <;> rfl

theorem Unread.decodeRun_comm {g : State → State} (hg : Unread g) (c : Colour) (s : State) :
    decodeRun c (g s) = (decodeRun c s).map g := by
  rw [decodeRun, decodeRun, hg.win, hg.decodeRunFrom_comm]

/-- HORIZONTAL with and without a change that is not read: the same two runs, or the same end of the launch. -/
theorem horizontalAction_unread_cases (s : State) :
    (∃ r1 r2 t, onlyRead s t ∧ horizontalAction s = .goesOn (horizontalFill r1 r2 t) ∧
        ∀ g, Unread g → horizontalAction (g s) = .goesOn (horizontalFill r1 r2 (g t))) ∨
      ∃ cause t, onlyRead s t ∧ horizontalAction s = .ended (endLaunch true cause t) ∧
        ∀ g, Unread g → horizontalAction (g s) = .ended (g (endLaunch true cause t)) := by
  have hrun {c : Colour} {u : State} {r : RunRead} (e : decodeRun c u = r) {g : State → State} (hg : Unread g) :
      decodeRun c (g u) = r.map g := e ▸ hg.decodeRun_comm c u
  rcases decodeRun_cases s.color s with ⟨r1, t, e1, k1⟩ | ⟨cause, t, e1, k1⟩
  · rcases decodeRun_cases s.color.opp t with ⟨r2, u, e2, k2⟩ | ⟨cause, u, e2, k2⟩
    · exact .inl ⟨r1, r2, u, onlyRead_trans k1 k2, horizontalAction_of_runs e1 e2, fun g hg =>
        horizontalAction_of_runs ((hg.color s).symm ▸ hrun e1 hg) ((hg.color s).symm ▸ hrun e2 hg)⟩
    · exact .inr ⟨cause, u, onlyRead_trans k1 k2, horizontalAction_of_second_ended e1 e2, fun g hg =>
        horizontalAction_of_second_ended ((hg.color s).symm ▸ hrun e1 hg) ((hg.color s).symm ▸ hrun e2 hg)⟩
  · exact .inr ⟨cause, t, k1, horizontalAction_of_first_ended e1, fun g hg =>
      horizontalAction_of_first_ended ((hg.color s).symm ▸ hrun e1 hg)⟩

theorem Unread.checkEndOfBlock_comm {g : State → State} (hg : Unread g) (s : State) :
    (g s).checkEndOfBlock = g s.checkEndOfBlock := by
  have hshows : (g s).showsEndOfBlock = s.showsEndOfBlock := by
    rw [State.showsEndOfBlock, hg.win, State.showsEndOfBlock]
  rw [State.checkEndOfBlock, State.checkEndOfBlock, hshows, raiseStop_eq, raiseStop_eq, hg.endLaunch_comm,
    hg.setReading_comm]
  split <;> rfl

/-! SUPPORT. The colour parameter (R205). -/

/-- The same state in a build with another `P_H_COLOR`. -/
def State.withHColor (v : HColor) (s : State) : State := { s with cfg := { s.cfg with hColor := v } }

theorem State.withHColor_unread (v : HColor) : Unread (State.withHColor v) := by
  constructor <;> intros <;> rfl

/-- Only a completed line adds to `lines` (R196). -/
theorem finishStep_of_emitted {s t : State} (h : finishStep s = .next t) (hlines : t.lines = s.lines + 1) :
    s.width ≤ s.a0 ∧ s.atLineLimit = false ∧
      ∃ px, writtenPixels s.width s.cur = some px ∧ t = ((s.emit px).newLine px).checkEndOfBlock := by
  rcases finishStep_cases s with ⟨_, e⟩ | ⟨ha, e⟩ <;> rw [e] at h
  · cases h; simp at hlines
  · rcases completeLine_cases s with ⟨_, e'⟩ | ⟨_, _, e'⟩ | ⟨px, hl, hw, e'⟩ <;> rw [e'] at h <;> cases h
    · simp at hlines
    · exact ⟨ha, hl, px, hw, rfl⟩

/-- A completed line forgets the colour that HORIZONTAL left (R195). -/
theorem finishStep_horizontalFill_withHColor {v : HColor} {r1 r2 : Nat} {s t : State}
    (h : finishStep (horizontalFill r1 r2 s) = .next t) (hlines : t.lines = s.lines + 1) :
    finishStep (horizontalFill r1 r2 (s.withHColor v)) = .next (t.withHColor v) := by
  obtain ⟨ha, hl, px, hw, rfl⟩ := finishStep_of_emitted h hlines
  rw [finishStep_of_le (s := horizontalFill r1 r2 (s.withHColor v)) ha,
    completeLine_of_written (s := horizontalFill r1 r2 (s.withHColor v)) hl hw,
    ← (State.withHColor_unread v).checkEndOfBlock_comm]
  rfl

/-- A HORIZONTAL step that completes a line read both its runs, and so it does after a change that is not read. -/
theorem exec_h_of_emitted {s t : State} (hready : s.ready) (h : exec .h s = .next t) (hlines : t.lines = s.lines + 1) :
    Instr.h.code.len ≤ s.win.valid ∧ ∃ r1 r2 u, u.lines = s.lines ∧ finishStep (horizontalFill r1 r2 u) = .next t ∧
      ∀ g, Unread g → horizontalAction (g (consumeMode .h s)) = .goesOn (horizontalFill r1 r2 (g u)) := by
  rcases Nat.lt_or_ge s.win.valid Instr.h.code.len with hshort | hlen
  · rw [exec_h, execMode_of_not_backed hready hshort] at h
    cases h
    simp at hlines
  · obtain ⟨hended, hgoesOn⟩ := execMode_of_backed hready hlen horizontalAction
    rcases horizontalAction_unread_cases (consumeMode .h s) with ⟨r1, r2, u, k, e, e'⟩ | ⟨cause, u, k, e, _⟩
    · exact ⟨hlen, r1, r2, u, (keepsOut_onlyRead k).lines, (hgoesOn _ e).symm.trans h, e'⟩
    · rw [exec_h, hended _ e] at h
      cases h
      have hu := (keepsOut_onlyRead k).lines
      simp [hu] at hlines

/-- Settles O53: the runs do not read the parameter, and the line start that follows them forgets the colour. -/
theorem colourParameterActsOnlyMidLine : Obligations.ColourParameterActsOnlyMidLine := by
  intro s t v hready h hlines
  have hcfg : t.cfg = s.cfg := (sameLaunch_exec h).cfg
  obtain ⟨hlen, r1, r2, u, hu, hfinish, haction⟩ := exec_h_of_emitted hready h hlines
  have hother : exec .h (s.withHColor v) = finishStep (horizontalFill r1 r2 (u.withHColor v)) :=
    (execMode_of_backed (s := s.withHColor v) hready hlen _).2 _ (haction _ (State.withHColor_unread v))
  have hgoal := hother.trans (finishStep_horizontalFill_withHColor hfinish (hu ▸ hlines))
  refine hgoal.trans (congrArg _ ?_)
  rw [State.withHColor, hcfg]

/-! SUPPORT. Two launches side by side (R201, R202): they differ in `OUT`, the polarity and the pins, none of which the
decoding reads, and each byte of the one's lines is related to the other's by a relation of the pixel bytes. -/

/-- The same state with other output bytes, another polarity and other pins. -/
def State.withHost (o : Memory) (v : Bool) (p : Pins) (s : State) : State :=
  { s with out := o, invert := v, pins := p }

theorem State.withHost_unread (o : Memory) (v : Bool) (p : Pins) : Unread (State.withHost o v p) := by
  constructor <;> intros <;> rfl

/-- `s` and `s.withHost o v p` emit related bytes, and have done so up to here. -/
structure State.Paired (P : Byte → Byte → Prop) (o : Memory) (v : Bool) (p : Pins) (s : State) : Prop where
  pixels : ∀ c, P (s.pixelByte c) ((s.withHost o v p).pixelByte c)
  emitted : ∀ a < s.lines * s.width, ∃ b b', s.out.read a = some b ∧ o.read a = some b' ∧ P b b'
  reported : s.status.lines = s.lines

/-- A result's next state, if there is one, is paired with the other launch's. -/
def Pairs (P : Byte → Byte → Prop) (v : Bool) (p : Pins) (r r' : Result) : Prop :=
  ∀ t, r = .next t → ∃ o, r' = .next (t.withHost o v p) ∧ t.Paired P o v p

/-- What a part of a step keeps that emits nothing. -/
structure Silent (s t : State) : Prop where
  keeps : KeepsOut s t
  invert : t.invert = s.invert
  reported : s.status.lines = s.lines → t.status.lines = t.lines

theorem Silent.refl (s : State) : Silent s s := ⟨⟨rfl, rfl, rfl, rfl⟩, rfl, id⟩

theorem Silent.trans {s t u : State} (h : Silent s t) (k : Silent t u) : Silent s u :=
  ⟨h.keeps.trans k.keeps, k.invert.trans h.invert, k.reported ∘ h.reported⟩

theorem silent_endLaunch (e : Bool) (c : Cause) (s : State) : Silent s (endLaunch e c s) :=
  ⟨keepsOut_endLaunch e c s, rfl, fun _ => rfl⟩

theorem silent_onlyRead {s t : State} (h : onlyRead s t) : Silent s t := by
  refine ⟨keepsOut_onlyRead h, ?_, fun hr => ?_⟩
  · rw [h.1]
  · rw [h.1]; exact hr

theorem silent_consumeMode (i : Instr) (s : State) : Silent s (consumeMode i s) := ⟨⟨rfl, rfl, rfl, rfl⟩, rfl, id⟩

theorem silent_setReading (r : Reading) (s : State) : Silent s { s with reading := r } :=
  ⟨⟨rfl, rfl, rfl, rfl⟩, rfl, id⟩

theorem silent_horizontalFill (r1 r2 : Nat) (s : State) : Silent s (horizontalFill r1 r2 s) :=
  ⟨⟨rfl, rfl, rfl, rfl⟩, rfl, id⟩

section Paired

variable {P : Byte → Byte → Prop} {o : Memory} {v : Bool} {p : Pins}

theorem pixelByte_congr {s t : State} (hc : t.cfg = s.cfg) (hi : t.invert = s.invert) (c : Colour) :
    t.pixelByte c = s.pixelByte c := by
  rw [State.pixelByte, State.pixelByte, hc, hi]

theorem State.Paired.silent {s t : State} (h : s.Paired P o v p) (k : Silent s t) : t.Paired P o v p := by
  obtain ⟨⟨hcfg, hwidth, hlines, hout⟩, hinvert, hreported⟩ := k
  refine ⟨fun c => ?_, ?_, hreported h.reported⟩
  · rw [pixelByte_congr hcfg hinvert,
      pixelByte_congr (s := s.withHost o v p) (t := t.withHost o v p) hcfg rfl]
    exact h.pixels c
  · rw [hlines, hwidth, hout]
    exact h.emitted

/-- A next state that came about without emission is paired with the same one of the other launch. -/
theorem State.Paired.pairs_silent {s t : State} (h : s.Paired P o v p) (k : Silent s t) :
    Pairs P v p (.next t) (.next (t.withHost o v p)) := by
  rintro _ ⟨⟩
  exact ⟨o, rfl, h.silent k⟩

/-- Emission writes related bytes into both outputs (R196). -/
theorem State.Paired.emit_paired {s : State} (h : s.Paired P o v p) {px : List Colour} (hlen : px.length = s.width) :
    (s.emit px).Paired P ((s.withHost o v p).emit px).out v p := by
  refine ⟨h.pixels, fun a ha => ?_, rfl⟩
  change a < (s.lines + 1) * s.width at ha
  rcases Nat.lt_or_ge a (s.lines * s.width) with hlt | hge
  · rw [State.emit_out_read_below s px hlt, State.emit_out_read_below (s.withHost o v p) px hlt]
    exact h.emitted a hlt
  · obtain ⟨x, rfl⟩ := Nat.exists_eq_add_of_le hge
    have hx : x < s.width := by rw [Nat.succ_mul] at ha; omega
    have hpx := List.getElem?_eq_getElem (hx.trans_eq hlen.symm)
    have hthis := State.emit_out_read_line s hlen hx
    have hother := State.emit_out_read_line (s.withHost o v p) hlen hx
    rw [hpx] at hthis hother
    exact ⟨_, _, hthis, hother, h.pixels _⟩

theorem silent_newLine (px : List Colour) (s : State) : Silent s (s.newLine px) := ⟨⟨rfl, rfl, rfl, rfl⟩, rfl, id⟩

theorem silent_checkEndOfBlock (s : State) : Silent s s.checkEndOfBlock := by
  rcases s.checkEndOfBlock_cases with ⟨_, e⟩ | ⟨_, e⟩ <;> rw [e]
  · exact silent_endLaunch ..
  · exact silent_setReading ..

theorem State.Paired.completeLine_pairs {s : State} (h : s.Paired P o v p) :
    Pairs P v p (completeLine s) (completeLine (s.withHost o v p)) := by
  intro t ht
  rcases completeLine_cases s with ⟨hl, e⟩ | ⟨_, _, e⟩ | ⟨px, hl, hw, e⟩ <;> rw [e] at ht
  · rw [completeLine_of_atLineLimit (s := s.withHost o v p) hl]
    exact h.pairs_silent (silent_endLaunch ..) t ht
  · cases ht
  · rw [completeLine_of_written (s := s.withHost o v p) hl hw]
    have hemit := h.emit_paired (writtenPixels_getElem? hw).1
    have hother : ((s.withHost o v p).emit px).newLine px =
        ((s.emit px).newLine px).withHost ((s.withHost o v p).emit px).out v p := rfl
    rw [hother, (State.withHost_unread _ v p).checkEndOfBlock_comm]
    exact hemit.pairs_silent ((silent_newLine ..).trans (silent_checkEndOfBlock _)) t ht

theorem State.Paired.finishStep_pairs {s : State} (h : s.Paired P o v p) :
    Pairs P v p (finishStep s) (finishStep (s.withHost o v p)) := by
  rcases finishStep_cases s with ⟨ha, e⟩ | ⟨ha, e⟩ <;> rw [e]
  · rw [finishStep_of_lt (s := s.withHost o v p) ha]
    exact h.pairs_silent (silent_setReading ..)
  · rw [finishStep_of_le (s := s.withHost o v p) ha]
    exact h.completeLine_pairs

/-- An action emits nothing, and does not see what `withHost` changes. -/
def ActionUnaware (action : State → ActionEnd) : Prop :=
  ∀ s : State,
    (∃ t, Silent s t ∧ action s = .goesOn t ∧ ∀ o v p, action (s.withHost o v p) = .goesOn (t.withHost o v p)) ∨
      ∃ t, Silent s t ∧ action s = .ended t ∧ ∀ o v p, action (s.withHost o v p) = .ended (t.withHost o v p)

theorem silent_moveTo (target : Nat) (c : Colour) (s : State) : Silent s (s.moveTo target c) :=
  ⟨⟨rfl, rfl, rfl, rfl⟩, rfl, id⟩

theorem pass_unaware : ActionUnaware passAction :=
  fun s => .inl ⟨s.moveTo (findB s).2 s.color, silent_moveTo .., rfl, fun _ _ _ => rfl⟩

theorem vertical_unaware (k : Int) : ActionUnaware (verticalAction k) := by
  intro s
  by_cases h : verticalTarget k s < s.a0
  · exact .inr ⟨endLaunch true .verticalRange s, silent_endLaunch .., if_pos h, fun _ _ _ => if_pos h⟩
  · exact .inl ⟨s.moveTo (verticalTarget k s).toNat s.color.opp, silent_moveTo .., if_neg h, fun _ _ _ => if_neg h⟩

theorem horizontal_unaware : ActionUnaware horizontalAction := by
  intro s
  rcases horizontalAction_unread_cases s with ⟨r1, r2, t, k, e, e'⟩ | ⟨cause, t, k, e, e'⟩
  · exact .inl ⟨_, (silent_onlyRead k).trans (silent_horizontalFill r1 r2 t), e,
      fun o v p => e' _ (State.withHost_unread o v p)⟩
  · exact .inr ⟨_, (silent_onlyRead k).trans (silent_endLaunch true cause t), e,
      fun o v p => e' _ (State.withHost_unread o v p)⟩

/-- A mode code steps alike in both launches if its action does not see the change. -/
theorem State.Paired.execMode_pairs {s : State} (h : s.Paired P o v p) (hready : s.ready) {action : State → ActionEnd}
    (ha : ActionUnaware action) (i : Instr) :
    Pairs P v p (execMode i action s) (execMode i action (s.withHost o v p)) := by
  rcases Nat.lt_or_ge s.win.valid i.code.len with hshort | hlen
  · rw [execMode_of_not_backed hready hshort, execMode_of_not_backed (s := s.withHost o v p) hready hshort]
    exact h.pairs_silent (silent_endLaunch ..)
  · have hread := h.silent (silent_consumeMode i s)
    obtain ⟨hended, hgoesOn⟩ := execMode_of_backed hready hlen action
    obtain ⟨hended', hgoesOn'⟩ := execMode_of_backed (s := s.withHost o v p) hready hlen action
    rcases ha (consumeMode i s) with ⟨t, ht, e, e'⟩ | ⟨t, ht, e, e'⟩
    · rw [hgoesOn t e, hgoesOn' _ (e' o v p)]
      exact (hread.silent ht).finishStep_pairs
    · rw [hended t e, hended' _ (e' o v p)]
      exact hread.pairs_silent ht

theorem State.Paired.modeCode_pairs {s : State} (h : s.Paired P o v p) (hready : s.ready) {i : Instr}
    (hi : i.wellFormed .mode = true) : Pairs P v p (exec i s) (exec i (s.withHost o v p)) := by
  rcases mode_cases hi with rfl | rfl | rfl | ⟨k, hk⟩
  · exact h.execMode_pairs hready pass_unaware .p
  · exact h.execMode_pairs hready horizontal_unaware .h
  · rw [exec_ext_of_ready hready, exec_ext_of_ready (s := s.withHost o v p) hready]
    exact h.pairs_silent (silent_endLaunch ..)
  · rw [exec_vertical hk, exec_vertical hk]
    exact h.execMode_pairs hready (vertical_unaware k) i

theorem State.Paired.codingStep_pairs {s : State} (h : s.Paired P o v p) (hready : s.ready) :
    Pairs P v p (codingStep s) (codingStep (s.withHost o v p)) := by
  unfold codingStep
  have hwin : (s.withHost o v p).win = s.win := rfl
  rw [hwin]
  split
  · split
    · exact h.pairs_silent (silent_endLaunch ..)
    · split
      · exact h.pairs_silent (silent_endLaunch ..)
      · next i hm => exact h.modeCode_pairs hready (modeMatch_wellFormed hm)
  · exact h.pairs_silent (silent_endLaunch ..)

/-- Outside the coding steps, or at the top of one, with no pulse given. -/
structure State.AtTop (s : State) : Prop where
  mode : s.reading = .mode
  quiet : s.quiet

/-- One step of two paired launches: both step on, and stay paired. -/
theorem State.Paired.step_pairs {s : State} (h : s.Paired P o v p) (hs : s.AtTop)
    (hp : p.rst = false ∧ p.start = false) : Pairs P v p (step s) (step (s.withHost o v p)) := by
  cases hc : s.phase.coding with
  | true =>
    have hready : s.ready := ⟨hc, hs.mode⟩
    have hdrop : (s.withHost o v p).dropStart = s.withHost o v p := State.dropStart_of_quiet hp
    rw [step_of_ready hready hs.quiet.1, step_of_ready (s := s.withHost o v p) hready hp.1, hdrop,
      State.dropStart_of_quiet hs.quiet]
    exact h.codingStep_pairs hready
  | false =>
    rw [step_rest hc hs.quiet.1 hs.quiet.2, step_rest (s := s.withHost o v p) hc hp.1 hp.2]
    exact h.pairs_silent (.refl s)

theorem State.AtTop.next {s t : State} (hs : s.AtTop) (h : step s = .next t) : t.AtTop := by
  refine ⟨codingStepIsAtomic s t hs.mode h, ?_⟩
  cases hc : s.phase.coding with
  | true =>
    rw [step_of_ready ⟨hc, hs.mode⟩ hs.quiet.1, State.dropStart_of_quiet hs.quiet] at h
    rw [State.quiet, (sameLaunch_codingStep h).pins]
    exact hs.quiet
  | false =>
    rw [step_rest hc hs.quiet.1 hs.quiet.2] at h
    cases h
    exact hs.quiet

/-- Any number of steps of two paired launches. -/
theorem State.Paired.run_pairs {s : State} (h : s.Paired P o v p) (hs : s.AtTop) (hp : p.rst = false ∧ p.start = false)
    (k : Nat) : Pairs P v p (core.run k s) (core.run k (s.withHost o v p)) := by
  induction k generalizing s o with
  | zero => exact h.pairs_silent (.refl s)
  | succ k ih =>
    intro u hu
    obtain ⟨t, ht, hrun⟩ := exists_step_of_run hu
    obtain ⟨o', ht', h'⟩ := h.step_pairs hs hp t ht
    obtain ⟨o'', hu', h''⟩ := ih h' (hs.next ht) u hrun
    exact ⟨o'', (core_run_succ ht' k).trans hu', h''⟩

end Paired

/-- Two launches begun in one build on the same source and width are paired by what relates their pixel bytes. -/
theorem beginLaunch_paired {P : Byte → Byte → Prop} {s s' : State} (hcfg : s'.cfg = s.cfg) (width : Nat)
    {invert invert' : Bool} (src : List Byte)
    (hP : ∀ c, P (State.pixelByte { s with invert := invert } c) (State.pixelByte { s with invert := invert' } c)) :
    beginLaunch width invert' src s' = (beginLaunch width invert src s).withHost s'.out invert' s'.pins ∧
      (beginLaunch width invert src s).Paired P s'.out invert' s'.pins := by
  refine ⟨?_, hP, fun a ha => absurd ha (by simp), rfl⟩
  rw [beginLaunch, hcfg]
  rfl

/-- Nothing happens in IDLE and DONE, however many steps are taken (R170). -/
theorem core_run_of_rest {s : State} (hc : s.phase.coding = false) (hq : s.quiet) (k : Nat) :
    core.run k s = .next s := by
  induction k with
  | zero => rfl
  | succ k ih => rw [core_run_succ (step_rest hc hq.1 hq.2), ih]

/-- Settles O30, for each polarity. -/
theorem emittedByteIsThePixel : Obligations.EmittedByteIsThePixel := by
  intro s
  cases hi : s.invert <;> simp [State.pixelByte, hi]

/-- A launch that ends at once with CONFIG_INVALID reports the same whatever was before (R243). -/
theorem configInvalid_status {s : State} (hc : s.phase.coding = false) :
    (endLaunch true .configInvalid s.dropStart.clearStatus).status =
      { Status.clear with done := true, error := true, cause := .configInvalid } := by
  have hpartial : partialAt s.phase = false := by
    cases hp : s.phase <;> simp_all [Phase.coding, partialAt]
  change endStatus true .configInvalid s.dropStart.clearStatus = _
  rw [endStatus, show s.dropStart.clearStatus.phase = s.phase from rfl, hpartial]
  rfl

/-- Two launches of one build on the same source and width: after any number of steps the status is the same, and the
bytes of the emitted lines are related as the bytes of the two polarities are. -/
theorem launches_paired {P : Byte → Byte → Prop} {s s' t : State} {k : Nat} (hc : s.phase.coding = false)
    (hc' : s'.phase.coding = false) (hr : s.pins.rst = false) (hstart : s.pins.start = true)
    (hpins : s'.pins = { s.pins with invert := s'.pins.invert }) (hcfg : s'.cfg = s.cfg)
    (hP : ∀ c, P (State.pixelByte { s with invert := s.pins.invert } c)
      (State.pixelByte { s with invert := s'.pins.invert } c))
    (h : core.run (k + 1) s = .next t) :
    ∃ t', core.run (k + 1) s' = .next t' ∧ t'.status = t.status ∧ t'.lines = t.lines ∧
      ∀ a < t.status.lines * t.width, ∃ b b', t.out.read a = some b ∧ t'.out.read a = some b' ∧ P b b' := by
  rw [core_run_succ (step_start hc hr hstart)] at h
  have hr' : s'.pins.rst = false := by rw [hpins]; exact hr
  have hstart' : s'.pins.start = true := by rw [hpins]; exact hstart
  rw [core_run_succ (step_start hc' hr' hstart')]
  have hvalid : s'.configValid = s.configValid := by rw [State.configValid, hpins, hcfg]; rfl
  rcases applyStart_cases s with ⟨hv, e⟩ | ⟨hv, e⟩ <;> rw [e] at h
  · have e' : applyStart s' = beginLaunch s.pins.width s'.pins.invert s.pins.src s'.dropStart := by
      rw [applyStart, if_pos (hvalid.trans hv), hpins]
    obtain ⟨hother, hpair⟩ :=
      beginLaunch_paired (s := s.dropStart) (s' := s'.dropStart) hcfg s.pins.width s.pins.src hP
    obtain ⟨o, hrun, hpaired⟩ := hpair.run_pairs ⟨rfl, hr, rfl⟩ ⟨hr', rfl⟩ k t h
    refine ⟨t.withHost o s'.pins.invert s'.dropStart.pins, (e'.trans hother) ▸ hrun, rfl, rfl, ?_⟩
    rw [hpaired.reported]
    exact hpaired.emitted
  · have e' : applyStart s' = endLaunch true .configInvalid s'.dropStart.clearStatus := by
      rw [applyStart, hvalid, hv, if_neg Bool.false_ne_true, raiseFault_eq]
    have hrest := core_run_of_rest (s := endLaunch true .configInvalid s.dropStart.clearStatus) rfl ⟨hr, rfl⟩ k
    obtain rfl := Host.Outcome.next.inj (hrest.symm.trans h)
    have hrest' := core_run_of_rest (s := endLaunch true .configInvalid s'.dropStart.clearStatus) rfl ⟨hr', rfl⟩ k
    refine ⟨endLaunch true .configInvalid s'.dropStart.clearStatus, e' ▸ hrest', ?_, rfl, fun a ha => ?_⟩
    · rw [configInvalid_status hc, configInvalid_status hc']
    · rw [configInvalid_status hc] at ha
      exact absurd ha (by simp [Status.clear])

theorem Phase.coding_of_idle_or_done {p : Phase} (h : p = .idle ∨ p = .done) : p.coding = false := by
  rcases h with rfl | rfl <;> rfl

/-- Each of the two pixel bytes is exchanged for the other. -/
def exchangedBytes (cfg : Config) (b b' : Byte) : Prop :=
  (b = cfg.pixelWhite ∧ b' = cfg.pixelBlack) ∨ (b = cfg.pixelBlack ∧ b' = cfg.pixelWhite)

/-- The two polarities give a pixel exchanged bytes (R196). -/
theorem pixelByte_exchanged (s : State) (v : Bool) (c : Colour) :
    exchangedBytes s.cfg (State.pixelByte { s with invert := v } c) (State.pixelByte { s with invert := !v } c) := by
  cases c <;> cases v <;> simp [exchangedBytes, emittedByteIsThePixel _]

/-- Settles O49: the two launches are paired by the exchange of the two pixel bytes. -/
theorem polarityLaw : Obligations.PolarityLaw := by
  intro s t k hphase hr hstart h
  have hc := Phase.coding_of_idle_or_done hphase
  obtain ⟨t', ht', hstatus, hlines, hbytes⟩ :=
    launches_paired (s' := { s with pins := { s.pins with invert := !s.pins.invert } }) (P := exchangedBytes s.cfg)
      hc hc hr hstart rfl rfl (pixelByte_exchanged s s.pins.invert) h
  refine ⟨t', ht', hstatus, hlines, fun a ha => ?_⟩
  obtain ⟨b, b', hb, hb', hP⟩ := hbytes a ha
  rw [hb, hb']
  simpa only [exchangedBytes, Option.some.injEq] using hP

/-- Settles O50: the two launches are paired by equality. -/
theorem relaunchIsFresh : Obligations.RelaunchIsFresh := by
  intro s s' t k hphase hphase' hr hstart hpins hcfg h
  obtain ⟨t', ht', hstatus, -, hbytes⟩ := launches_paired (P := Eq) (s' := s') (Phase.coding_of_idle_or_done hphase)
    (Phase.coding_of_idle_or_done hphase') hr hstart (by rw [hpins]) hcfg (fun c => by rw [hpins]) h
  refine ⟨t', ht', hstatus, fun a ha => ?_⟩
  obtain ⟨b, b', hb, hb', rfl⟩ := hbytes a ha
  rw [hb, hb']

end Sys2Proof.Machine

namespace Sys2Proof.Machine

/-! SUPPORT. One step of a launch by the place it is taken at (R171, R143, R197), the pulse taken down first. -/

theorem step_of_runColour {s : State} {c : Colour} (hc : s.phase.coding = true) (hrst : s.pins.rst = false)
    (hr : s.runColour? = some c) : step s = runCodeStep c s.dropStart := by
  rw [step_launch hc hrst, launchStep_of_runColour (s := s.dropStart) hr]

theorem step_of_endOfBlock {s : State} (hc : s.phase.coding = true) (hrst : s.pins.rst = false)
    (hr : s.reading = .endOfBlock) : step s = endOfBlockStep s.dropStart := by
  rw [step_launch hc hrst]
  simp [launchStep, hr]

/-- Settles O17: each place looks the window up in its own table, and runs what it finds. -/
theorem stepRunsTheDecodedInstruction : Obligations.StepRunsTheDecodedInstruction := by
  intro s i hc hrst
  refine ⟨fun hr hrem hbuf hdec => ?_, fun c hr hv hdec => ?_, fun hr hrem hdec => ?_⟩
  · have hmatch := (modeMatch_eq_some_iff_decodeWindow s.win i).mpr hdec
    rw [step_of_ready ⟨hc, hr⟩ hrst]
    rcases codingStep_cases s.dropStart with ⟨h, _⟩ | ⟨_, h, _⟩ | ⟨_, _, h, _⟩ | ⟨j, _, _, h, _, e⟩
    · simp [hrem] at h
    · exact absurd h hbuf
    · simp [hmatch] at h
    · obtain rfl : i = j := by simpa [hmatch] using h
      exact e
  · have hmatch := (runMatch_eq_some_iff_decodeWindow s.win c i).mpr hdec
    rw [step_of_runColour hc hrst hr, runCodeStep_of_runMatch (s := s.dropStart) hv hmatch,
      exec_runCode (runMatch_wellFormed hmatch)]
  · obtain ⟨hshows, rfl⟩ := (decodeWindow_endOfBlock_eq_ok_iff s.win.buffer i).mp hdec
    rw [step_of_endOfBlock hc hrst hr, endOfBlockStep,
      if_pos (by rw [State.showsEndOfBlock, Bool.and_eq_true]; exact ⟨hrem, hshows⟩)]

/-- A lookahead below 0x02 in its top byte is so as a mode window. -/
theorem peek8_lt_of_buffer_lt {w : Window} (h : w.buffer < 0x02000000) : w.peek8.1 < 0x02 := by
  rw [BitVec.lt_def] at h ⊢
  change w.buffer.toNat < 0x02000000 at h
  change (w.buffer.extractLsb' 24 8).toNat < 2
  rw [BitVec.extractLsb'_toNat, Nat.shiftRight_eq_div_pow]
  omega

/-- A lookahead below 0x0100 in its top two bytes is so as a run window. -/
theorem peek16_lt_of_buffer_lt {w : Window} (h : w.buffer < 0x01000000) : w.peek16.1 < 0x0100 := by
  rw [BitVec.lt_def] at h ⊢
  change w.buffer.toNat < 0x01000000 at h
  change (w.buffer.extractLsb' 16 16).toNat < 0x0100
  rw [BitVec.extractLsb'_toNat, Nat.shiftRight_eq_div_pow]
  omega

/-- The end of a launch in one step, as the statements write it. -/
theorem next_endLaunch_dropStart (error : Bool) (cause : Cause) (s : State) :
    (.next (endLaunch error cause s.dropStart) : Result) =
      .next (s.dropStart.endedIn error cause s.phase s.status.consumed) :=
  congrArg _ (endLaunch_eq_endedIn error cause s.dropStart)

/-- Settles O18: the checks of each place, in their order. -/
theorem checksBeforeACode : Obligations.ChecksBeforeACode := by
  intro s hc hrst
  refine ⟨fun hr => ?_, fun c hr => ?_, fun hr hne => ?_⟩
  · rw [step_of_ready ⟨hc, hr⟩ hrst]
    simp only [← next_endLaunch_dropStart]
    rcases codingStep_cases s.dropStart with ⟨h, e⟩ | ⟨h, hb, e⟩ | ⟨h, hb, _, e⟩ | ⟨i, h, hb, hm, _⟩ <;>
      rw [State.dropStart_win] at h
    · exact ⟨fun _ => e, fun hrem => by simp [h] at hrem, fun hrem => by simp [h] at hrem⟩
    · exact ⟨fun hrem => by simp [h] at hrem, fun _ _ => e, fun _ hne => absurd hb hne⟩
    · exact ⟨fun hrem => by simp [h] at hrem, fun _ hzero => absurd hzero hb, fun _ _ _ => e⟩
    · refine ⟨fun hrem => by simp [h] at hrem, fun _ hzero => absurd hzero hb, fun _ _ hlow => ?_⟩
      rw [(modeMatch_eq_none_iff _).mpr (peek8_lt_of_buffer_lt (w := s.dropStart.win) hlow)] at hm
      cases hm
  · rw [step_of_runColour hc hrst hr]
    simp only [← next_endLaunch_dropStart]
    rcases runCodeStep_cases c s.dropStart with ⟨hv, e⟩ | ⟨hv, _, e⟩ | ⟨i, hv, hm, _⟩
    · exact ⟨fun _ => e, fun hpos => absurd hv hpos.ne'⟩
    · exact ⟨fun h0 => absurd h0 hv.ne', fun _ _ => e⟩
    · refine ⟨fun h0 => absurd h0 hv.ne', fun _ hlow => ?_⟩
      rw [(runMatch_eq_none_iff _ c).mpr (peek16_lt_of_buffer_lt (w := s.dropStart.win) hlow)] at hm
      cases hm
  · have hno : s.dropStart.showsEndOfBlock = false := by
      rw [State.showsEndOfBlock, Bool.and_eq_false_iff]
      exact .inr (beq_eq_false_iff_ne.mpr hne)
    rw [step_of_endOfBlock hc hrst hr, endOfBlockStep, hno, if_neg Bool.false_ne_true]

/-- Settles O19: the check of R175 comes before the code is consumed, and 25 valid bits would back any code. -/
theorem modeCodeNotBacked : Obligations.ModeCodeNotBacked := by
  intro s i hready hi hext hshort
  constructor
  · rw [← endLaunch_eq_endedIn]
    rcases mode_cases hi with rfl | rfl | rfl | ⟨k, hk⟩
    · exact (exec_p s).trans (execMode_of_not_backed hready hshort _)
    · exact (exec_h s).trans (execMode_of_not_backed hready hshort _)
    · exact absurd rfl hext
    · exact (exec_vertical hk s).trans (execMode_of_not_backed hready hshort _)
  · rintro ⟨-, -, -, hfull, -⟩
    have hlen := code_len_le i
    exact hfull.resolve_left (by rw [Window.valid] at hshort; omega)

/-- Settles O32: the pattern is read where the check waits for it. -/
theorem endOfBlockStops : Obligations.EndOfBlockStops := by
  intro s hc hr
  rw [exec_eob_of_waiting hc hr, endLaunch_eq_endedIn]

/-- Settles O43, by the rows of R170 for the two phases outside a launch. -/
theorem nothingHappensWithoutStart : Obligations.NothingHappensWithoutStart :=
  fun _ hp hq => step_rest (Phase.coding_of_idle_or_done hp) hq.1 hq.2

end Sys2Proof.Machine

namespace Sys2Proof.Machine

/-! SUPPORT. The line limit (R195, R244): with no bound on the lines, no part of a step raises LINE_LIMIT. -/

/-- A build without a line bound, where no launch has ended with LINE_LIMIT (R244). -/
structure State.Unlimited (s : State) : Prop where
  bound : s.cfg.maxLines = none
  cause : s.status.cause ≠ .lineLimit

/-- The state at the end of a run read, however it ended. -/
def RunRead.state : RunRead → State
  | .run _ t => t
  | .ended t => t

/-- The state at the end of an action, whether the step goes on or the launch ended. -/
def ActionEnd.state : ActionEnd → State
  | .goesOn t => t
  | .ended t => t

theorem State.Unlimited.after_endLaunch {s : State} (h : s.Unlimited) (error : Bool) {cause : Cause}
    (hc : cause ≠ .lineLimit) : (endLaunch error cause s).Unlimited := ⟨h.bound, hc⟩

theorem State.Unlimited.after_consume {s : State} (h : s.Unlimited) (n : Nat) : (s.consume n).Unlimited :=
  ⟨h.bound, h.cause⟩

theorem State.Unlimited.after_setReading {s : State} (h : s.Unlimited) (r : Reading) :
    State.Unlimited { s with reading := r } := ⟨h.bound, h.cause⟩

theorem State.Unlimited.after_fillRuns {s : State} (h : s.Unlimited) (r1 r2 : Nat) :
    (horizontalFill r1 r2 s).Unlimited :=
  ⟨h.bound, h.cause⟩

theorem State.Unlimited.after_checkEndOfBlock {s : State} (h : s.Unlimited) : s.checkEndOfBlock.Unlimited := by
  rcases s.checkEndOfBlock_cases with ⟨_, e⟩ | ⟨_, e⟩ <;> rw [e]
  · exact h.after_endLaunch false nofun
  · exact h.after_setReading .mode

/-- No line is at the limit where there is none (R195). -/
theorem State.Unlimited.not_atLineLimit {s : State} (h : s.Unlimited) : s.atLineLimit = false :=
  atLineLimit_eq_false (by rw [h.bound]; nofun)

/-- The one place that raises LINE_LIMIT does so at the bound only (R195). -/
theorem State.Unlimited.after_completeLine {s t : State} (h : s.Unlimited) (ht : completeLine s = .next t) :
    t.Unlimited := by
  rcases completeLine_cases s with ⟨hl, _⟩ | ⟨_, _, e⟩ | ⟨px, _, _, e⟩
  · simp [h.not_atLineLimit] at hl
  · rw [e] at ht; cases ht
  · rw [e] at ht; cases ht
    have hline : ((s.emit px).newLine px).Unlimited := ⟨h.bound, h.cause⟩
    exact hline.after_checkEndOfBlock

theorem State.Unlimited.after_finishStep {s t : State} (h : s.Unlimited) (ht : finishStep s = .next t) :
    t.Unlimited := by
  rcases finishStep_cases s with ⟨_, e⟩ | ⟨_, e⟩ <;> rw [e] at ht
  · cases ht; exact h.after_setReading .mode
  · exact h.after_completeLine ht

theorem decodeRunFrom_succ_of_error {n : Nat} {c : Colour} {total : Nat} {s : State} {cause : Cause}
    (h : nextRunCode c s.win = .error cause) :
    decodeRunFrom (n + 1) c total s = .ended (endLaunch true cause s) := by
  simp [decodeRunFrom, h]

/-- A run ends a launch with the causes of R143 only. -/
theorem State.Unlimited.after_decodeRunFrom {s : State} (h : s.Unlimited) (n : Nat) (c : Colour) (total : Nat) :
    (decodeRunFrom n c total s).state.Unlimited := by
  induction n generalizing total s with
  | zero => exact h.after_endLaunch true nofun
  | succ n ih =>
    cases ho : nextRunCode c s.win with
    | error cause =>
      rw [decodeRunFrom_succ_of_error ho]
      rcases nextRunCode_error ho with rfl | rfl <;> exact h.after_endLaunch true nofun
    | ok i =>
      rw [decodeRunFrom_ok ho]
      split
      · exact h.after_consume i.code.len
      · exact ih (h.after_consume i.code.len) _

theorem State.Unlimited.after_pass {s : State} (h : s.Unlimited) : (passAction s).state.Unlimited := ⟨h.bound, h.cause⟩

theorem State.Unlimited.after_vertical {s : State} (h : s.Unlimited) (k : Int) :
    (verticalAction k s).state.Unlimited := by
  unfold verticalAction
  split
  · exact h.after_endLaunch true nofun
  · exact ⟨h.bound, h.cause⟩

theorem State.Unlimited.after_horizontal {s : State} (h : s.Unlimited) : (horizontalAction s).state.Unlimited := by
  have h1 : (decodeRun s.color s).state.Unlimited := h.after_decodeRunFrom ..
  cases e1 : decodeRun s.color s with
  | ended t =>
    rw [e1] at h1
    rw [horizontalAction_of_first_ended e1]
    exact h1
  | run r1 t =>
    rw [e1] at h1
    have h2 : (decodeRun s.color.opp t).state.Unlimited := State.Unlimited.after_decodeRunFrom h1 ..
    cases e2 : decodeRun s.color.opp t with
    | ended u =>
      rw [e2] at h2
      rw [horizontalAction_of_second_ended e1 e2]
      exact h2
    | run r2 u =>
      rw [e2] at h2
      rw [horizontalAction_of_runs e1 e2]
      exact State.Unlimited.after_fillRuns h2 r1 r2

/-- A mode code whose action raises no LINE_LIMIT raises none: the completion of its line does not (R171). -/
theorem State.Unlimited.after_execMode {s t : State} (h : s.Unlimited) {action : State → ActionEnd}
    (ha : ∀ u : State, u.Unlimited → (action u).state.Unlimited) {i : Instr} (ht : execMode i action s = .next t) :
    t.Unlimited := by
  by_cases hr : s.ready
  · have hgo := ha (consumeMode i s) ⟨h.bound, h.cause⟩
    rcases execMode_ready hr i action with ⟨_, e⟩ | ⟨_, ⟨u, hu, e⟩ | ⟨u, hu, e⟩⟩ <;> rw [e] at ht
    · cases ht; exact h.after_endLaunch true nofun
    · cases ht; rw [hu] at hgo; exact hgo
    · rw [hu] at hgo; exact State.Unlimited.after_finishStep hgo ht
  · rw [execMode_outOfContext hr] at ht; cases ht

theorem State.Unlimited.after_modeCode {s t : State} (h : s.Unlimited) {i : Instr} (hi : i.wellFormed .mode = true)
    (ht : exec i s = .next t) : t.Unlimited := by
  rcases mode_cases hi with rfl | rfl | rfl | ⟨k, hk⟩
  · exact h.after_execMode (fun _ hu => hu.after_pass) ht
  · exact h.after_execMode (fun _ hu => hu.after_horizontal) ht
  · rw [exec_ext, execUnrecognized] at ht
    split at ht <;> cases ht
    exact h.after_endLaunch false nofun
  · rw [exec_vertical hk] at ht
    exact h.after_execMode (fun _ hu => hu.after_vertical k) ht

theorem State.Unlimited.after_codingStep {s t : State} (h : s.Unlimited) (ht : codingStep s = .next t) :
    t.Unlimited := by
  rcases codingStep_cases s with ⟨_, e⟩ | ⟨_, _, e⟩ | ⟨_, _, _, e⟩ | ⟨i, _, _, _, hi, e⟩ <;> rw [e] at ht
  · cases ht; exact h.after_endLaunch false nofun
  · cases ht; exact h.after_endLaunch false nofun
  · cases ht; exact h.after_endLaunch false nofun
  · exact h.after_modeCode hi ht

theorem State.Unlimited.after_addRun {s t : State} (h : s.Unlimited) {terminates : Bool} {pixels : Nat}
    (ht : addRun terminates pixels s = .next t) : t.Unlimited := by
  unfold addRun at ht
  split at ht
  case h_1 => cases ht; exact h.after_setReading _
  case h_2 r1 total _ =>
    split at ht
    · exact (h.after_fillRuns r1 (total + pixels)).after_finishStep ht
    · cases ht; exact h.after_setReading _
  case h_3 => cases ht
  case h_4 => cases ht

theorem State.Unlimited.after_execRunCode {s t : State} (h : s.Unlimited) {i : Instr} (ht : execRunCode i s = .next t) :
    t.Unlimited := by
  by_cases hr : s.readsRunCode i = true
  · rcases execRunCode_reads hr with ⟨_, e⟩ | ⟨_, e⟩ <;> rw [e] at ht
    · cases ht; exact h.after_endLaunch true nofun
    · exact (h.after_consume i.code.len).after_addRun ht
  · rw [execRunCode, if_neg hr] at ht; cases ht

theorem State.Unlimited.after_runCodeStep {s t : State} (h : s.Unlimited) {c : Colour}
    (ht : runCodeStep c s = .next t) : t.Unlimited := by
  rcases runCodeStep_cases c s with ⟨_, e⟩ | ⟨_, _, e⟩ | ⟨i, _, _, _, e⟩ <;> rw [e] at ht
  · cases ht; exact h.after_endLaunch true nofun
  · cases ht; exact h.after_endLaunch true nofun
  · exact h.after_execRunCode ht

theorem State.Unlimited.after_endOfBlockStep {s t : State} (h : s.Unlimited) (ht : endOfBlockStep s = .next t) :
    t.Unlimited := by
  unfold endOfBlockStep at ht
  split at ht
  · rw [exec_eob, execEob] at ht
    split at ht <;> cases ht
    exact h.after_endLaunch false nofun
  · cases ht; exact h.after_setReading .mode

theorem State.Unlimited.after_launchStep {s t : State} (h : s.Unlimited) (ht : launchStep s = .next t) :
    t.Unlimited := by
  unfold launchStep at ht
  split at ht
  · exact h.after_codingStep ht
  · exact h.after_runCodeStep ht
  · exact h.after_runCodeStep ht
  · exact h.after_endOfBlockStep ht

/-- START reports no cause, or CONFIG_INVALID (R262, R243). -/
theorem applyStart_cause_ne_lineLimit (s : State) : (applyStart s).status.cause ≠ .lineLimit := by
  rcases applyStart_cases s with ⟨_, e⟩ | ⟨_, e⟩ <;> rw [e] <;> nofun

theorem State.Unlimited.after_step {s t : State} (h : s.Unlimited) (ht : step s = .next t) : t.Unlimited := by
  rcases step_cases s with ⟨_, e⟩ | ⟨_, _, _, e⟩ | ⟨_, _, _, e⟩ | ⟨_, _, e⟩ <;> rw [e] at ht
  · cases ht; exact ⟨h.bound, nofun⟩
  · cases ht; exact ⟨(applyStart_cfg s).symm ▸ h.bound, applyStart_cause_ne_lineLimit s⟩
  · cases ht; exact h
  · have hdrop : s.dropStart.Unlimited := ⟨h.bound, h.cause⟩
    exact hdrop.after_launchStep ht

/-- No step of the invariant emits a line past the bound (R195, R244). -/
theorem State.inv.lines_le_of_step {s t : State} {k : Nat} (h : s.inv) (hk : s.cfg.maxLines = some k)
    (ht : step s = .next t) : t.lines ≤ k := by
  obtain ⟨-, -, hbound, -⟩ := stepKeepsTheInvariant s t h ht
  obtain ⟨hcfg, -⟩ := latchedValuesStayConstant s t ht
  rw [hcfg, hk] at hbound
  exact of_decide_eq_true hbound

/-- A step that ends with at most `k` lines changes no byte above its first `k` lines (R64, R244). -/
theorem out_read_of_step_of_lines_le {s t : State} {k : Nat} (ht : step s = .next t) (hlines : t.lines ≤ k) {a : Nat}
    (ha : k * s.width ≤ a) : t.out.read a = s.out.read a := by
  obtain ⟨hrest, hlaunch⟩ := outputIsWriteOnce s t ht
  by_cases hr : s.phase.coding = false ∨ s.pins.rst = true
  · rw [hrest hr]
  · rw [not_or, Bool.not_eq_false, Bool.not_eq_true] at hr
    rcases hlaunch hr.1 hr.2 with ⟨_, hout⟩ | ⟨hnext, hout, _⟩
    · rw [hout]
    · exact hout a (.inr ((Nat.mul_le_mul_right _ (hnext ▸ hlines)).trans ha))

/-- Settles O29: completion looks at the limit first, every step keeps the invariant's bound on the lines and writes no
line but the next, and without a bound no part of a step raises the fault. -/
theorem lineLimitBoundsTheOutput : Obligations.LineLimitBoundsTheOutput := by
  refine ⟨fun s ha hl => ?_, fun s t k hinv hk ht => ?_, fun s t hnone ht hc => ?_⟩
  · rw [finishStep_of_le ha, completeLine_of_atLineLimit (beq_iff_eq.mpr hl), endLaunch_eq_endedIn]
  · have hlines := hinv.lines_le_of_step hk ht
    exact ⟨hlines, fun _ ha => out_read_of_step_of_lines_le ht hlines ha⟩
  · have hs : s.Unlimited := ⟨hnone, hc⟩
    exact (hs.after_step ht).cause

/-! SUPPORT. START with an invalid configuration (R243). -/

/-- What makes a configuration invalid (R262, R243). -/
theorem State.configValid_eq_false_iff (s : State) :
    s.configValid = false ↔ s.pins.width = 0 ∨ withinBound s.pins.width s.cfg.maxWidth = false ∨
      withinBound s.pins.src.length s.cfg.maxSrc = false := by
  simp only [State.configValid, Bool.and_eq_false_iff, decide_eq_false_iff_not, Nat.one_le_iff_ne_zero, not_not,
    or_assoc]

/-- Settles O39: START ends the launch on the cleared status, before the window is constructed. -/
theorem invalidConfigurationFaults : Obligations.InvalidConfigurationFaults := by
  intro s hphase hrst hstart hinvalid
  have hc := Phase.coding_of_idle_or_done hphase
  refine ⟨endLaunch true .configInvalid s.dropStart.clearStatus, ?_, rfl, rfl, rfl, configInvalid_status hc⟩
  rw [step_start hc hrst hstart, applyStart, s.configValid_eq_false_iff.mpr hinvalid, if_neg Bool.false_ne_true,
    raiseFault_eq]

/-! SUPPORT. The causes (R233). -/

/-- Every cause, in the order of the codes (R233). -/
def causes : List Cause :=
  [.none, .endOfBlock, .endOfInput, .zeroLookahead, .unrecognizedMode, .corruptRunCode, .unexpectedEnd, .verticalRange,
    .lineLimit, .configInvalid]

theorem mem_causes (c : Cause) : c ∈ causes := by cases c <;> decide

theorem causes_codes : causes.map (fun c => c.code.toNat) = [0, 1, 2, 3, 4, 8, 9, 10, 11, 12] := by decide

/-- Settles O54: the codes of the causes are the listed ones, which are all different, and the invariant keeps ERROR in
step with the code. -/
theorem causeCodes : Obligations.CauseCodes := by
  refine ⟨fun c => ?_, fun c d h => ?_, fun s hinv => ?_⟩
  · rw [← causes_codes]
    exact List.mem_map_of_mem (mem_causes c)
  · have hnodup : (causes.map fun c => c.code.toNat).Nodup := by rw [causes_codes]; decide
    exact List.inj_on_of_nodup_map hnodup (mem_causes c) (mem_causes d) (congrArg BitVec.toNat h)
  · obtain ⟨⟨-, -, -, -, herror, -⟩, -⟩ := hinv
    rw [herror, decide_eq_true_eq]

end Sys2Proof.Machine

namespace Sys2Proof.Machine

/-! SUPPORT. The pins inside a launch (R264): no part of a step there reads them, so a change of them may be made before
the step or after it. -/

/-- The same state with other pins. -/
def State.withPins (p : Pins) (s : State) : State := { s with pins := p }

theorem State.withPins_unread (p : Pins) : Unread (State.withPins p) := by
  constructor <;> intros <;> rfl

/-- The result with other pins in its next state, if there is one. -/
def resultWithPins (p : Pins) : Result → Result
  | .next t => .next (t.withPins p)
  | .fault e => .fault e
  | .refused e => .refused e

/-- The end of an action with other pins. -/
def ActionEnd.withPins (p : Pins) : ActionEnd → ActionEnd
  | .goesOn t => .goesOn (t.withPins p)
  | .ended t => .ended (t.withPins p)

section Pins

variable (p : Pins) (s : State)

theorem completeLine_withPins : completeLine (s.withPins p) = resultWithPins p (completeLine s) := by
  rcases completeLine_cases s with ⟨hl, e⟩ | ⟨hl, hw, e⟩ | ⟨px, hl, hw, e⟩ <;> rw [e]
  · exact completeLine_of_atLineLimit (s := s.withPins p) hl
  · have hl' : (s.withPins p).atLineLimit = false := hl
    have hw' : writtenPixels (s.withPins p).width (s.withPins p).cur = none := hw
    simp [completeLine, hl', hw', resultWithPins]
  · exact (completeLine_of_written (s := s.withPins p) hl hw).trans
      (congrArg _ ((State.withPins_unread p).checkEndOfBlock_comm ((s.emit px).newLine px)))

theorem finishStep_withPins : finishStep (s.withPins p) = resultWithPins p (finishStep s) := by
  rcases finishStep_cases s with ⟨ha, e⟩ | ⟨ha, e⟩ <;> rw [e]
  · exact finishStep_of_lt (s := s.withPins p) ha
  · exact (finishStep_of_le (s := s.withPins p) ha).trans (completeLine_withPins p s)

theorem verticalAction_withPins (k : Int) :
    verticalAction k (s.withPins p) = (verticalAction k s).withPins p := by
  rw [verticalAction, verticalAction, apply_ite (ActionEnd.withPins p)]
  rfl

theorem passAction_withPins : passAction (s.withPins p) = (passAction s).withPins p := rfl

theorem horizontalAction_withPins : horizontalAction (s.withPins p) = (horizontalAction s).withPins p := by
  rcases horizontalAction_unread_cases s with ⟨_, _, _, _, e, e'⟩ | ⟨_, _, _, e, e'⟩ <;>
    rw [e, e' _ (State.withPins_unread p)] <;> rfl

/-- A mode code does not read the pins if its action does not (R171). -/
theorem execMode_withPins {action : State → ActionEnd} (ha : ∀ u : State, action (u.withPins p) = (action u).withPins p)
    (i : Instr) : execMode i action (s.withPins p) = resultWithPins p (execMode i action s) := by
  by_cases hready : s.ready
  · rcases Nat.lt_or_ge s.win.valid i.code.len with hshort | hlen
    · rw [execMode_of_not_backed hready hshort, execMode_of_not_backed (s := s.withPins p) hready hshort]
      rfl
    · obtain ⟨hended, hgoesOn⟩ := execMode_of_backed hready hlen action
      obtain ⟨hended', hgoesOn'⟩ := execMode_of_backed (s := s.withPins p) hready hlen action
      have hread : action (consumeMode i (s.withPins p)) = (action (consumeMode i s)).withPins p := ha (consumeMode i s)
      cases e : action (consumeMode i s) with
      | ended t =>
        rw [e] at hread
        rw [hended t e, hended' _ hread]
        rfl
      | goesOn t =>
        rw [e] at hread
        rw [hgoesOn t e, hgoesOn' _ hread, finishStep_withPins]
  · rw [execMode_outOfContext hready, execMode_outOfContext (s := s.withPins p) hready]
    rfl

theorem exec_modeCode_withPins {i : Instr} (hi : i.wellFormed .mode = true) :
    exec i (s.withPins p) = resultWithPins p (exec i s) := by
  rcases mode_cases hi with rfl | rfl | rfl | ⟨k, hk⟩
  · exact execMode_withPins p s (passAction_withPins p) .p
  · exact execMode_withPins p s (horizontalAction_withPins p) .h
  · rw [exec_ext, exec_ext, execUnrecognized, execUnrecognized, apply_ite (resultWithPins p)]
    rfl
  · rw [exec_vertical hk, exec_vertical hk]
    exact execMode_withPins p s (fun u => verticalAction_withPins p u k) i

theorem codingStep_withPins : codingStep (s.withPins p) = resultWithPins p (codingStep s) := by
  unfold codingStep
  have hwin : (s.withPins p).win = s.win := rfl
  rw [hwin]
  split
  · split
    · rfl
    · split
      · rfl
      · next i hm => exact exec_modeCode_withPins p s (modeMatch_wellFormed hm)
  · rfl

theorem addRun_withPins (terminates : Bool) (pixels : Nat) :
    addRun terminates pixels (s.withPins p) = resultWithPins p (addRun terminates pixels s) := by
  unfold addRun
  have hreading : (s.withPins p).reading = s.reading := rfl
  rw [hreading]
  split
  · rfl
  · next r1 total _ =>
    split
    · exact finishStep_withPins p (horizontalFill r1 (total + pixels) s)
    · rfl
  · rfl
  · rfl

theorem execRunCode_withPins (i : Instr) : execRunCode i (s.withPins p) = resultWithPins p (execRunCode i s) := by
  by_cases hr : s.readsRunCode i = true
  · have hr' : (s.withPins p).readsRunCode i = true := hr
    have hwin : (s.withPins p).win = s.win := rfl
    rw [execRunCode, execRunCode, if_pos hr, if_pos hr', hwin]
    split
    · rfl
    · exact addRun_withPins p (s.consume i.code.len) _ _
  · rw [execRunCode, execRunCode, if_neg hr, if_neg (show ¬ (s.withPins p).readsRunCode i = true from hr)]
    rfl

theorem runCodeStep_withPins (c : Colour) : runCodeStep c (s.withPins p) = resultWithPins p (runCodeStep c s) := by
  unfold runCodeStep
  have hwin : (s.withPins p).win = s.win := rfl
  rw [hwin]
  split
  · rfl
  · split
    · rfl
    · next i hm =>
      rw [exec_runCode (runMatch_wellFormed hm), exec_runCode (runMatch_wellFormed hm)]
      exact execRunCode_withPins p s i

theorem endOfBlockStep_withPins : endOfBlockStep (s.withPins p) = resultWithPins p (endOfBlockStep s) := by
  have heob : exec .eob (s.withPins p) = resultWithPins p (exec .eob s) := by
    rw [exec_eob, exec_eob, execEob, execEob, apply_ite (resultWithPins p)]
    rfl
  rw [endOfBlockStep, endOfBlockStep, heob, apply_ite (resultWithPins p)]
  rfl

/-- No place inside a launch reads the pins (R264). -/
theorem launchStep_withPins : launchStep (s.withPins p) = resultWithPins p (launchStep s) := by
  unfold launchStep
  have hreading : (s.withPins p).reading = s.reading := rfl
  rw [hreading]
  split
  · exact codingStep_withPins p s
  · exact runCodeStep_withPins p s _
  · exact runCodeStep_withPins p s _
  · exact endOfBlockStep_withPins p s

end Pins

/-- A step inside a launch with other pins presented: the same, but for the pins and the pulse taken down (R264). -/
theorem step_withPins {s : State} {p : Pins} (hc : s.phase.coding = true) (hrst : s.pins.rst = false)
    (hp : p.rst = false) : step (s.withPins p) = resultWithPins { p with start := false } (step s) := by
  rw [step_launch hc hrst, step_launch (s := s.withPins p) hc hp]
  exact launchStep_withPins { p with start := false } s.dropStart

/-- Settles O40: inside a launch a step takes the pulse down and then reads no pin, SRC included. -/
theorem startWhileBusyIsIgnored : Obligations.StartWhileBusyIsIgnored := by
  intro s p hc hrst hp _
  have h := step_withPins hc hrst hp
  exact ⟨fun t ht => by rw [ht] at h; exact h, fun e he => by rw [he] at h; exact h⟩

/-! SUPPORT. Launch and reset (R260 to R263). -/

/-- Settles O38: a valid configuration is launched with the presented values. -/
theorem startSetsTheStartValues : Obligations.StartSetsTheStartValues := by
  intro s hphase hrst hstart hwidth hmaxWidth hmaxSrc
  have hvalid : s.configValid = true := by simp [State.configValid, hwidth, hmaxWidth, hmaxSrc]
  rw [step_start (Phase.coding_of_idle_or_done hphase) hrst hstart, applyStart, if_pos hvalid]
  rfl

/-- Settles O41: RST is the first row of R170, whatever the phase. -/
theorem resetInAnyPhase : Obligations.ResetInAnyPhase :=
  fun s hrst => ⟨applyReset s, step_rst hrst, rfl, rfl, rfl, rfl, rfl⟩

/-- Settles O42, field by field. -/
theorem resetStateValues : Obligations.ResetStateValues := ⟨rfl, rfl, rfl, rfl, rfl⟩

/-- Settles O44: power-up acts as RST with nothing written in `OUT`. -/
theorem invariantAtReset : Obligations.InvariantAtReset :=
  applyReset_inv (s := State.reset) List.Pairwise.nil

end Sys2Proof.Machine
